-- ==== Sys2Proof/Word.lean ====
section
/-! DEFINITION. The words the station's formats are made of (12_formats.md) and the plain numbers of the trunk. -/

namespace Sys2Proof

/-- One byte of a frame, of the configuration image or of the collector port. -/
abbrev Byte := BitVec 8

/-- A 16-bit field: epoch, cycle number, close sequence number, event flags. -/
abbrev Word16 := BitVec 16

/-- A CRC-32 value: the plan digest (R184). -/
abbrev Digest := BitVec 32

/-- A converter result, 0 to 4095 (R100). -/
abbrev Sample := BitVec 12

/-- A station id, 0 to 15. -/
abbrev StationId := Fin 16

/-- One of CH0 to CH7. -/
abbrev Channel := Fin 8

/-- A set of station ids held in 16 bits, bit n for id n (12_formats.md, opening). -/
abbrev IdSet := BitVec 16

/-- An instant on the station's own clock, in units of 1/720720 µs (log 2). -/
abbrev Instant := Nat

/-- The units of time in one microsecond: the least number that makes T / N (N from 1 to 16), S / 2 and every bit time whole. DESIGN CHOICE, log 2; safe. -/
abbrev unitsPerMicrosecond : Nat := 720720

/-- The samples of CH0 to CH7 at one instant (R99). -/
abbrev Samples := Vector Sample 8

end Sys2Proof
end

