-- ==== Sys2Proof/Config.lean ====
section
/-! DEFINITION. What a configuration image fixes for the station (R182, R186), and the free values: what the manual leaves open, as constants without a body. -/

namespace Sys2Proof

/-- Join mode of the configuration image (R60). -/
inductive JoinMode where
  | auto | manual | observe
  deriving DecidableEq, Repr

/-- A used place of the plan list or of the priority group (R86, R99). -/
structure PlanEntry where
  channel : Channel
  monitored : Bool
  deriving DecidableEq, Repr

/-- An acceptance window (9.5, R156). -/
structure Window where
  enabled : Bool
  takesRegular : Bool
  takesPriority : Bool
  base : Nat
  limit : Nat
  deriving DecidableEq, Repr

/-- The fields that a good load hands to the blocks (R186), with the station's own computed plan digest (R184). The alert mask stands in the collector port. -/
structure StationConfig where
  id : StationId
  joinMode : JoinMode
  autorun : Bool
  /-- bit-rate class in Mbit/s: 1, 2, 5 or 10 -/
  rate : Nat
  /-- T in µs -/
  period : Nat
  /-- S in µs -/
  silence : Nat
  plan : List PlanEntry
  group : List PlanEntry
  externalTotal : Nat
  rangeTotal : Nat
  offsets : Vector Int 8
  rangeLow : Nat
  rangeHigh : Nat
  autoRequest : Bool
  windows : Vector Window 4
  closeAgeLimit : Nat
  digest : Digest
  deriving DecidableEq, Repr

/-- R162 leaves open whether the records of a frame whose end brings the cycle end are placed before it. Free value, log 13; safe. -/
opaque Config.recordsBeforeCycleEnd : Nat → Bool

/-- R37 and R38 use the sender's position in the summary's roster and give none for a summary that does not list its sender. Free value, log 14; safe. -/
opaque Config.unlistedSenderPosition : Nat → Nat

/-- 10.1 bounds the close age by 255 and does not say what it becomes past 255 when the close age limit is 0. Free value, log 16; safe. -/
opaque Config.closeAgePast255 : Nat → Byte

/-- The bits of a collector-port response byte that 12.4 gives no meaning, by draw and by byte of the response. Free value, log 17; safe. -/
opaque Config.unnamedBits : Nat → Nat → Byte

end Sys2Proof
end

