-- ==== Sys2Proof/Syntax.lean ====
section
/-! DEFINITION. The commands of the block: one constructor per row of spec/opcode_table.json, with what the event brings with it. -/

namespace Sys2Proof

/-- The 38 commands. `now` is the instant of the event on the station's own clock where the event starts a timer; an expiry comes at the instant that State holds for it (log 2). -/
inductive Instr where
  /-- POWER_ON (R177). -/
  | powerOn
  /-- POWER_ON_DELAY_EXPIRY (R177). -/
  | powerOnDelayExpiry (now : Instant)
  /-- RESETN_LOW (R177). -/
  | resetnLow
  /-- RESETN_RISE (R177). -/
  | resetnRise (now : Instant)
  /-- BUS_CLEAR (R179): whether SDA is still low after the ninth pulse. -/
  | busClear (sdaLow : Bool)
  /-- ADDRESS_BYTE (R179): whether the memory acknowledged the byte. -/
  | addressByte (acknowledged : Bool)
  /-- IMAGE_BYTE (R179): the byte received. -/
  | imageByte (received : Byte)
  /-- LOAD_TIMEOUT (R179). -/
  | loadTimeout
  /-- CHECKING (R181). -/
  | checking (now : Instant)
  /-- FRAME_START (R39). -/
  | frameStart (now : Instant)
  /-- FRAME_END (R51): the level on the line in each bit time from the start mark to the frame end; true is recessive (1), false dominant (0). -/
  | frameEnd (now : Instant) (line : List Bool)
  /-- FRAME_BEGIN (R43). -/
  | frameBegin (now : Instant)
  /-- ARBITRATION_LOSS (R44). -/
  | arbitrationLoss
  /-- READBACK_MISMATCH (R45): whether the station sent a recessive bit and read it back dominant (R46). -/
  | readbackMismatch (sentRecessive : Bool)
  /-- ABORT_MARK_END (R45). -/
  | abortMarkEnd
  /-- START_GUARD_EXPIRY (R43). -/
  | startGuardExpiry
  /-- SLOT_PASSES (R25). -/
  | slotPasses
  /-- JOIN_WINDOW_TIMER_EXPIRY (R31). -/
  | joinWindowTimerExpiry
  /-- CYCLE_OPENING (R21). -/
  | cycleOpening
  /-- PHASE (R34): what CH0 to CH7 hold at the phase instant, as the converter would read them. -/
  | phase (samples : Samples)
  /-- CONVERSION_COMPLETE (R100): what CH0 to CH7 hold at that instant, for a next conversion that takes its sample when it begins (R99). -/
  | conversionComplete (samples : Samples)
  /-- FOUNDING_TIMER_EXPIRY (R64). -/
  | foundingTimerExpiry
  /-- HOLDOFF_EXPIRY (R84). -/
  | holdoffExpiry
  /-- TRIG_RISING_EDGE (R111). -/
  | trigRisingEdge
  /-- STATUS (R170). -/
  | status
  /-- EVENTS (R172). -/
  | events
  /-- ROSTER (R171). -/
  | roster
  /-- READ (R165): the start index. -/
  | read (start : Byte)
  /-- RELEASE (R164): the close sequence number. -/
  | release (sequence : Word16)
  /-- CLOSE (R163). -/
  | close
  /-- CAPTURE (R112): the repeat total. -/
  | capture (total : Byte)
  /-- HALT (R131). -/
  | halt
  /-- JOIN (R61). -/
  | join (now : Instant)
  /-- LEAVE (R62). -/
  | leave
  /-- RESET (R175). -/
  | reset
  /-- UNKNOWN (R168): the code byte that names no command. -/
  | unknown (code : Byte)
  /-- SELECT_RELEASE (R168). -/
  | selectRelease (now : Instant)
  /-- RESUME_COMMAND (R131): the RESUME command, code 09h. -/
  | resumeCommand
  deriving DecidableEq, Repr

end Sys2Proof
end

