-- ==== Sys2Proof/WellFormed.lean ====
section
/-! DEFINITION. Which command terms stand for an event the spec describes. The machine gives every term a meaning; these checks say which of them the outside can send. -/

namespace Sys2Proof

/-- The codes 01h to 0Ch name the twelve commands (12.4), so an UNKNOWN command carries another code (R168). -/
def unknownCodeOk (code : Byte) : Bool := code == 0 || 12 < code.toNat

/-- A frame's levels on the line open with its start mark, a single dominant bit (R39). -/
def lineOpensWithStartMark (line : List Bool) : Bool := line.head? == some false

/-- The checks of a command term. -/
def Instr.wellFormed : Instr → Bool
  | .unknown code => unknownCodeOk code
  | .frameEnd _ line => lineOpensWithStartMark line
  | .powerOn | .powerOnDelayExpiry _ | .resetnLow | .resetnRise _ | .busClear _ | .addressByte _ | .imageByte _
  | .loadTimeout | .checking _ | .frameStart _ | .frameBegin _ | .arbitrationLoss | .readbackMismatch _
  | .abortMarkEnd | .startGuardExpiry | .slotPasses | .joinWindowTimerExpiry | .cycleOpening | .phase _
  | .conversionComplete _ | .foundingTimerExpiry | .holdoffExpiry | .trigRisingEdge | .status | .events | .roster
  | .read _ | .release _ | .close | .capture _ | .halt | .join _ | .leave | .reset | .selectRelease _
  | .resumeCommand => true

end Sys2Proof
end

