-- ==== Sys2Proof/Decode.lean ====
section
/-! DEFINITION. From bits to commands. The opcode table gives no row any bits, so a table word spells no command (log 7). The collector port has codes of its own (12.4): its transaction bytes are read here. -/

namespace Sys2Proof

/-- No row of spec/opcode_table.json gives bits: no word spells a command by the table's bits. -/
def decodeTableWord (_nbits _w : Nat) : Option Instr := none

/-- The command that the bytes shifted in since the assertion of select spell (12.4, R191): taken at the last bit of its last argument byte. None while the command is not complete; bytes after the command's last are not taken (R168). `now` is the instant at which it is taken. -/
def decodePort (now : Instant) : List Byte → Option Instr
  | [] => none
  | code :: rest =>
    match code.toNat, rest with
    | 1, _ => some .status
    | 2, _ => some .events
    | 3, _ => some .roster
    | 4, start :: _ => some (.read start)
    | 4, [] => none
    | 5, high :: low :: _ => some (.release (high ++ low))
    | 5, _ => none
    | 6, _ => some .close
    | 7, total :: _ => some (.capture total)
    | 7, [] => none
    | 8, _ => some .halt
    | 9, _ => some .resumeCommand
    | 10, _ => some (.join now)
    | 11, _ => some .leave
    | 12, _ => some .reset
    | _, _ => some (.unknown code)

/-- The bytes that the consumer shifts in for a collector-port command (12.4); none for an event that is no command of the port. -/
def encodePort : Instr → Option (List Byte)
  | .status => some [1]
  | .events => some [2]
  | .roster => some [3]
  | .read start => some [4, start]
  | .release sequence => some [5, sequence.extractLsb' 8 8, sequence.extractLsb' 0 8]
  | .close => some [6]
  | .capture total => some [7, total]
  | .halt => some [8]
  | .resumeCommand => some [9]
  | .join _ => some [10]
  | .leave => some [11]
  | .reset => some [12]
  | .unknown code => some [code]
  | .powerOn | .powerOnDelayExpiry _ | .resetnLow | .resetnRise _ | .busClear _ | .addressByte _ | .imageByte _
  | .loadTimeout | .checking _ | .frameStart _ | .frameEnd _ _ | .frameBegin _ | .arbitrationLoss
  | .readbackMismatch _ | .abortMarkEnd | .startGuardExpiry | .slotPasses | .joinWindowTimerExpiry | .cycleOpening
  | .phase _ | .conversionComplete _ | .foundingTimerExpiry | .holdoffExpiry | .trigRisingEdge
  | .selectRelease _ => none

end Sys2Proof
end

