-- ==== Sys2Proof/Machine/State.lean ====
section
/-! DEFINITION. The state of the station: every register, queue, timer and flag that the manual gives it, as plain data; the reasons a step can stop; the state after reset. -/

namespace Sys2Proof.Machine

/-! ### The shared image (1.1) -/

/-- Cause of a priority request (R110). -/
inductive Cause where
  | external | range | command
  deriving DecidableEq, Repr

/-- An entry of the roster (1.1, R2). -/
structure RosterEntry where
  id : StationId
  missed : Nat
  admitted : Bool
  deriving DecidableEq, Repr

/-- A queued priority request (R116). -/
structure Request where
  requester : StationId
  cause : Cause
  total : Nat
  serial : Byte
  deriving DecidableEq, Repr

/-- The active capture (R118): the promoted request and the next repeat index. -/
structure Capture where
  request : Request
  next : Nat
  deriving DecidableEq, Repr

/-- The halt gather (8.1). -/
structure Gather where
  required : IdSet
  acked : IdSet
  elapsed : Nat
  deriving DecidableEq, Repr

/-- Run state of an image (8.1). -/
inductive RunState where
  | running | halted
  deriving DecidableEq, Repr

/-- The shared image (1.1). -/
structure Image where
  epoch : Word16
  cycle : Word16
  digest : Digest
  roster : List RosterEntry
  run : RunState
  gather : Option Gather
  cursor : Nat
  queue : List Request
  capture : Option Capture
  deriving DecidableEq, Repr

/-- The cycle-end marks (R6). -/
structure Marks where
  leavers : IdSet
  resume : Bool
  cancelCapture : Bool
  join : Option (StationId × Digest)
  deriving DecidableEq, Repr

/-- No mark set. -/
def Marks.empty : Marks := { leavers := 0, resume := false, cancelCapture := false, join := none }

/-! ### Trunk frames (12.1) -/

/-- A control item as a BEAT carries it (12.1). -/
inductive Item where
  | haltAck
  | resumeReq
  | haltReq
  | priorityReq (cause : Cause) (total : Nat) (serial : Byte)
  | leave
  deriving DecidableEq, Repr

/-- What a record holds by its kind (R96, R121). -/
inductive RecordKind where
  | regular (entry : Fin 16)
  | priority (requester : StationId) (serial : Byte) (repeatIndex : Fin 8) (element : Fin 4)
  deriving DecidableEq, Repr

/-- A trunk record (R109, 12.1). -/
structure Record where
  kind : RecordKind
  channel : Channel
  cycle : Word16
  value : Sample
  low : Bool
  high : Bool
  clamped : Bool
  gap : Bool
  deriving DecidableEq, Repr

/-- A BEAT (R48, 12.1). -/
structure Beat where
  sender : StationId
  doubt : Bool
  epoch : Word16
  cycle : Word16
  position : Fin 16
  items : List Item
  records : List Record
  summary : Option Image
  deriving DecidableEq, Repr

/-- The station's own frame in the transmitter. The records of a BEAT in flight stand in the record transport (R145). `taken` holds the items the assembly took (R49). -/
inductive OwnFrame where
  | beat (doubt : Bool) (epoch cycle : Word16) (position : Fin 16) (items taken : List Item) (summary : Option Image)
  | join (digest : Digest)
  deriving DecidableEq, Repr

/-! ### Station controller (4.1) -/

/-- Station states (R58). -/
inductive StationState where
  | loading | idle | listen | joining | member | fault
  deriving DecidableEq, Repr

/-- Fault reasons (R85). -/
inductive FaultReason where
  | imageAbsent | imageCrc | imageVersion | imageRange | planMismatch | idClash | joinFailed
  deriving DecidableEq, Repr

/-- Join-hold reasons (R67). -/
inductive JoinHold where
  | none | notWanted | holdoff | noSummary | idListed | full | ready
  deriving DecidableEq, Repr

/-- Removal reasons (R59). -/
inductive Removal where
  | left | evicted | yielded
  deriving DecidableEq, Repr

/-- The station controller (4.1). -/
structure StationController where
  state : StationState
  faultReason : Option FaultReason
  joiningWanted : Bool
  departing : Bool
  attempts : Nat
  holdoff : Option Instant
  founding : Option Instant
  joinHold : JoinHold
  refusedJoins : Nat
  removal : Option Removal
  /-- a LEAVE taken while the own JOIN is on the line (R62) -/
  deferredLeave : Bool
  deriving DecidableEq, Repr

/-! ### Image unit -/

/-- Certainty of a member (R13). -/
inductive Certainty where
  | synced | doubtful
  deriving DecidableEq, Repr

/-- The image unit: the image held (the member's image in MEMBER, the tracked image in LISTEN and JOINING), and beside it the local state of R6 and R13. -/
structure ImageUnit where
  image : Option Image
  copy : Option Image
  certainty : Option Certainty
  marks : Marks
  deriving DecidableEq, Repr

/-! ### Cycle timer (2.1) -/

/-- CT states (R20). -/
inductive CtState where
  | stopped | untimed | slots | window | interval
  deriving DecidableEq, Repr

/-- Cycle types (R35). -/
inductive CycleType where
  | regular | priority | drain | halted
  deriving DecidableEq, Repr

/-- The cycle mark (R22). -/
structure Mark where
  instant : Instant
  provisional : Bool
  deriving DecidableEq, Repr

/-- The phase plan, with the N, own position and type the CT fixes beside it (R21, R36). `suppressed` says that a departing station converts nothing by it (R78). -/
structure PhasePlan where
  cycle : Word16
  type : CycleType
  members : Nat
  position : Option Nat
  cursor : Nat
  capture : Option Capture
  suppressed : Bool
  deriving DecidableEq, Repr

/-- The cycle timer. -/
structure CycleTimer where
  state : CtState
  mark : Option Mark
  nextOpening : Option Instant
  pointer : Nat
  silence : Option Instant
  window : Option Instant
  /-- index of the next phase to be taken -/
  nextPhase : Nat
  /-- a phase signal was taken in this cycle (R36) -/
  phaseTaken : Bool
  heard : IdSet
  summarySeen : Bool
  plan : Option PhasePlan
  deriving DecidableEq, Repr

/-! ### Trunk interface -/

/-- Transmitter states (R42). -/
inductive TxState where
  | idle | armed | arbitrating | sending | aborting
  deriving DecidableEq, Repr

/-- The trunk interface. -/
structure TrunkInterface where
  tx : TxState
  frame : Option OwnFrame
  startGuard : Option Instant
  /-- the receiver is inside a frame; the flag says that the frame started in the open join window (R31, R56) -/
  receiving : Option Bool
  clashSuspect : Bool
  /-- FAULT(ID_CLASH) is due after the abort mark (R46) -/
  clashAfterAbort : Bool
  errors : Nat
  foreign : Nat
  inconsistent : Nat
  deriving DecidableEq, Repr

/-! ### Control item buffer (7.1) -/

/-- The pending set and the request serial counter. -/
structure ItemBuffer where
  request : Option (Cause × Nat)
  haltReq : Bool
  resumeReq : Bool
  haltAck : Bool
  leave : Bool
  /-- the pending HALT_REQ or RESUME_REQ was posted after the last assembly (R47, R131) -/
  reposted : Bool
  serial : Byte
  deriving DecidableEq, Repr

/-! ### Sequencer and converter (6.1) -/

/-- A conversion in flight (R98). -/
structure Conversion where
  channel : Channel
  sample : Option Sample
  kind : RecordKind
  cycle : Word16
  monitored : Bool
  discard : Bool
  deriving DecidableEq, Repr

/-- The list in flight and the instant at which its first conversion completes. -/
structure Sequencer where
  inFlight : List Conversion
  completion : Option Instant
  deriving DecidableEq, Repr

/-! ### Record transport (9.1) -/

/-- The outgoing record queue, the records of the frame in flight and gap-pending (R145). -/
structure RecordTransport where
  queue : List Record
  inFlight : List Record
  gapPending : Bool
  deriving DecidableEq, Repr

/-! ### Delivery unit (10.1) -/

/-- A delivered record (R159). -/
structure Delivered where
  record : Record
  origin : StationId
  dropped : Bool
  deriving DecidableEq, Repr

/-- Close causes (R161). -/
inductive CloseCause where
  | full | age | command
  deriving DecidableEq, Repr

/-- A delivery half (10.1). -/
inductive Half where
  | free
  | filling (records : List Delivered) (age : Nat)
  | closed (records : List Delivered) (sequence : Word16) (cause : CloseCause)
  deriving DecidableEq, Repr

/-- H0 or H1. -/
inductive HalfId where
  | h0 | h1
  deriving DecidableEq, Repr

/-- The delivery unit. -/
structure DeliveryUnit where
  h0 : Half
  h1 : Half
  counter : Word16
  /-- which CLOSED half was closed first -/
  first : Option HalfId
  droppedPending : Bool
  dropped : Nat
  deriving DecidableEq, Repr

/-! ### Collector port (10.4 to 10.6) -/

/-- The sixteen event flags, in the bit order of 12.4 (R173). -/
inductive EventFlag where
  | loaded | fault | joined | removed | yielded | roster | diverged | rxError
  | foreign | range | refused | draining | halted | resumed | closed | dropped
  deriving DecidableEq, Repr

/-- Reasons of a refusal (R126). -/
inductive RefusalReason where
  | halted | halting | full
  deriving DecidableEq, Repr

/-- The collector port. `response` is the response of the command taken in the current select (R169). -/
structure CollectorPort where
  flags : Word16
  mask : Word16
  response : Option (List Byte)
  resetAtRelease : Bool
  lastRefusal : Option (RefusalReason × Byte)
  deriving DecidableEq, Repr

/-! ### Halt report (8.5) -/

/-- Halt outcome (R140). -/
inductive HaltOutcome where
  | none | complete | incomplete | adopted
  deriving DecidableEq, Repr

/-- The station's own halt outcome and unacknowledged set (R140). -/
structure HaltReport where
  outcome : HaltOutcome
  unacked : IdSet
  deriving DecidableEq, Repr

/-! ### Resets and loader (11.1, 11.2) -/

/-- Reset causes (R175). -/
inductive ResetCause where
  | powerOn | pin | command
  deriving DecidableEq, Repr

/-- What the start of LOADING waits for after a reset (R177). -/
inductive Hold where
  | none | powerOnDelay | resetnLow
  deriving DecidableEq, Repr

/-- Reset cause, hold and the level of RESETn. -/
structure ResetControl where
  cause : ResetCause
  hold : Hold
  resetnLow : Bool
  deriving DecidableEq, Repr

/-- Load phases (R178). -/
inductive LoadPhase where
  | starting | addressing | reading | checking | done | failed
  deriving DecidableEq, Repr

/-- The loader. -/
structure Loader where
  phase : LoadPhase
  bytes : List Byte
  count : Nat
  /-- address bytes acknowledged, 0 to 4 (R179) -/
  addressed : Nat
  /-- the 50 ms limit of R179 -/
  timer : Option Instant
  deriving DecidableEq, Repr

/-! ### The state -/

/-- The whole state of the station. `free` and `pending` are the model's own: the counter free values are drawn with, and the queue of waiting commands. -/
structure State where
  sc : StationController
  iu : ImageUnit
  ct : CycleTimer
  ti : TrunkInterface
  cb : ItemBuffer
  sq : Sequencer
  /-- channel state map, bit n set for CHn OUT (R105, R106) -/
  rm : Byte
  rt : RecordTransport
  du : DeliveryUnit
  cp : CollectorPort
  halt : HaltReport
  rc : ResetControl
  ld : Loader
  cfg : Option StationConfig
  free : Nat
  pending : List Instr
  deriving DecidableEq, Repr

/-- The model raises no fault: the manual gives every command an effect, or none, in every state, and FAULT is a station state (R85). Safe: no step stops. -/
inductive Fault where
  deriving DecidableEq, Repr

/-- Reasons to have no meaning for a command. -/
inductive Refusal where
  /-- Raised by an arm of exec whose command has no meaning yet; no arm does. Safe. -/
  | notModelled (mnemonic : String)
  deriving DecidableEq, Repr

/-! ### Updates, one per block -/

def State.setSc (s : State) (x : StationController) : State := { s with sc := x }
def State.setIu (s : State) (x : ImageUnit) : State := { s with iu := x }
def State.setCt (s : State) (x : CycleTimer) : State := { s with ct := x }
def State.setTi (s : State) (x : TrunkInterface) : State := { s with ti := x }
def State.setCb (s : State) (x : ItemBuffer) : State := { s with cb := x }
def State.setSq (s : State) (x : Sequencer) : State := { s with sq := x }
def State.setRm (s : State) (x : Byte) : State := { s with rm := x }
def State.setRt (s : State) (x : RecordTransport) : State := { s with rt := x }
def State.setDu (s : State) (x : DeliveryUnit) : State := { s with du := x }
def State.setCp (s : State) (x : CollectorPort) : State := { s with cp := x }
def State.setHalt (s : State) (x : HaltReport) : State := { s with halt := x }
def State.setRc (s : State) (x : ResetControl) : State := { s with rc := x }
def State.setLd (s : State) (x : Loader) : State := { s with ld := x }
def State.setCfg (s : State) (x : Option StationConfig) : State := { s with cfg := x }
def State.setFree (s : State) (x : Nat) : State := { s with free := x }
def State.setPending (s : State) (x : List Instr) : State := { s with pending := x }

/-! ### Reset values, block by block (R177's table) -/

/-- R58. -/
def StationController.afterReset : StationController :=
  { state := .loading, faultReason := none, joiningWanted := false, departing := false, attempts := 0, holdoff := none,
    founding := none, joinHold := .none, refusedJoins := 0, removal := none, deferredLeave := false }

/-- R1: no image, no certainty, no marks. -/
def ImageUnit.empty : ImageUnit := { image := none, copy := none, certainty := none, marks := .empty }

/-- R20: the values the CT takes after reset and whenever it stops. -/
def CycleTimer.stopped : CycleTimer :=
  { state := .stopped, mark := none, nextOpening := none, pointer := 0, silence := none, window := none, nextPhase := 0,
    phaseTaken := false, heard := 0, summarySeen := false, plan := none }

/-- R42, R46, R51. -/
def TrunkInterface.afterReset : TrunkInterface :=
  { tx := .idle, frame := none, startGuard := none, receiving := none, clashSuspect := false, clashAfterAbort := false,
    errors := 0, foreign := 0, inconsistent := 0 }

/-- R110. -/
def ItemBuffer.afterReset : ItemBuffer :=
  { request := none, haltReq := false, resumeReq := false, haltAck := false, leave := false, reposted := false, serial := 0 }

/-- R98. -/
def Sequencer.idle : Sequencer := { inFlight := [], completion := none }

/-- R145. -/
def RecordTransport.empty : RecordTransport := { queue := [], inFlight := [], gapPending := false }

/-- R158. -/
def DeliveryUnit.afterReset : DeliveryUnit :=
  { h0 := .filling [] 0, h1 := .free, counter := 0, first := none, droppedPending := false, dropped := 0 }

/-- R173 to R175; the mask selects FAULT alone (R174, 12.4). A transaction in progress is ended (R168): no response is held, though the select may still be asserted (log 28). -/
def CollectorPort.afterReset : CollectorPort :=
  { flags := 0, mask := 0x0002, response := none, resetAtRelease := false, lastRefusal := none }

/-- R140. -/
def HaltReport.empty : HaltReport := { outcome := .none, unacked := 0 }

/-- R178. -/
def Loader.afterReset : Loader := { phase := .starting, bytes := [], count := 0, addressed := 0, timer := none }

/-- The state right after the power-on reset: every block at its reset value, cause POWER_ON, and the station held until the power-on delay has passed (R177). -/
def State.reset : State :=
  { sc := .afterReset, iu := .empty, ct := .stopped, ti := .afterReset, cb := .afterReset, sq := .idle, rm := 0,
    rt := .empty, du := .afterReset, cp := .afterReset, halt := .empty,
    rc := { cause := .powerOn, hold := .powerOnDelay, resetnLow := false }, ld := .afterReset, cfg := none,
    free := 0, pending := [] }

end Sys2Proof.Machine
end

