-- ==== Sys2Proof/Machine/Flags.lean ====
section
/-! DEFINITION. Event flags, ALERT, counts that saturate, and sets of station ids. -/

namespace Sys2Proof.Machine

/-- The bit of an event flag (12.4). -/
def EventFlag.bit : EventFlag → Nat
  | .loaded => 0 | .fault => 1 | .joined => 2 | .removed => 3 | .yielded => 4 | .roster => 5 | .diverged => 6
  | .rxError => 7 | .foreign => 8 | .range => 9 | .refused => 10 | .draining => 11 | .halted => 12 | .resumed => 13
  | .closed => 14 | .dropped => 15

/-- The flag as a mask of 16 bits. -/
def EventFlag.mask (f : EventFlag) : Word16 := 1#16 <<< f.bit

/-- A source sets its flag; a flag already set stays set (R173). -/
def State.raise (f : EventFlag) (s : State) : State := s.setCp { s.cp with flags := s.cp.flags ||| f.mask }

/-- Whether a flag is set. -/
def State.flag (f : EventFlag) (s : State) : Bool := s.cp.flags.getLsbD f.bit

/-- ALERT is asserted while a flag that the alert mask selects is set (R174). -/
def State.alert (s : State) : Bool := s.cp.flags &&& s.cp.mask != 0

/-- A count of 0 to 255 that saturates (R51, R72). -/
def saturate255 (n : Nat) : Nat := if n < 255 then n + 1 else 255

/-- A count of 0 to 65535 that saturates (R160). -/
def saturate65535 (n : Nat) : Nat := if n < 65535 then n + 1 else 65535

/-! Sets of station ids (12_formats.md, opening). -/

def IdSet.has (x : IdSet) (i : StationId) : Bool := x.getLsbD i.val

def IdSet.single (i : StationId) : IdSet := 1#16 <<< i.val

def IdSet.add (x : IdSet) (i : StationId) : IdSet := x ||| IdSet.single i

def IdSet.minus (x y : IdSet) : IdSet := x &&& ~~~y

/-- Whether every id of `x` is in `y`. -/
def IdSet.within (x y : IdSet) : Bool := IdSet.minus x y == 0

def IdSet.ofList : List StationId → IdSet
  | [] => 0
  | i :: rest => IdSet.add (IdSet.ofList rest) i

end Sys2Proof.Machine
end

