-- ==== Sys2Proof/Machine/Ops.lean ====
section
/-! DEFINITION. The shared operations: time, the image and what items and cycle ends do to it, the record transport, the control item buffer, departures and FAULT. -/

namespace Sys2Proof.Machine

/-! ### Time (log 2) -/

/-- µs as units of time. -/
def microseconds (n : Nat) : Nat := n * unitsPerMicrosecond

def periodOf (c : StationConfig) : Nat := microseconds c.period

def silenceOf (c : StationConfig) : Nat := microseconds c.silence

/-- The start guard S/2 (R30). -/
def guardOf (c : StationConfig) : Nat := silenceOf c / 2

/-- The founding wait (4 + own id) × T (R64). -/
def foundingWait (c : StationConfig) : Nat := (4 + c.id.val) * periodOf c

/-- The holdoff 16 × T (R84). -/
def holdoffTime (c : StationConfig) : Nat := 16 * periodOf c

/-- A conversion takes 3 µs (R100). -/
def conversionTime : Nat := microseconds 3

/-- The load's limit of 50 ms (R179). -/
def loadLimit : Nat := microseconds 50000

/-! ### Roster (R2) -/

def Image.ids (m : Image) : List StationId := m.roster.map (·.id)

def Image.lists (m : Image) (i : StationId) : Bool := m.ids.contains i

/-- A member's position is the number of entries with a lower id (R2); none for an id that is not listed. -/
def Image.position (m : Image) (i : StationId) : Option Nat :=
  if m.lists i then some (m.ids.countP (· < i)) else none

def Image.idSet (m : Image) : IdSet := IdSet.ofList m.ids

/-- R35. -/
def Image.cycleType (m : Image) : CycleType :=
  if m.capture.isSome then .priority
  else match m.run with
    | .halted => .halted
    | .running => if m.gather.isSome then .drain else .regular

/-- The queued request or active capture of a station, if the image holds one. -/
def Image.ownRequest (m : Image) (i : StationId) : Option Request :=
  match m.capture with
  | some c => if c.request.requester = i then some c.request else m.queue.find? (·.requester = i)
  | none => m.queue.find? (·.requester = i)

/-! ### Arrival of control items (R7) -/

/-- What an arriving item did that a station may have to report. -/
inductive ItemEffect where
  | nothing
  | refused (reason : RefusalReason) (serial : Byte)
  | gatherStarted (dropped : List Request)
  deriving DecidableEq, Repr

/-- R116. -/
def Image.arrivePriority (m : Image) (sender : StationId) (cause : Cause) (total : Nat) (serial : Byte) :
    Image × ItemEffect :=
  if m.run = .halted then (m, .refused .halted serial)
  else if m.gather.isSome then (m, .refused .halting serial)
  else if 4 ≤ m.queue.length then (m, .refused .full serial)
  else if (m.ownRequest sender).isSome then (m, .nothing)
  else ({ m with queue := m.queue ++ [{ requester := sender, cause, total, serial }] }, .nothing)

/-- R133, R124. -/
def Image.arriveHalt (m : Image) (k : Marks) : Image × Marks × ItemEffect :=
  if m.run = .running ∧ m.gather.isNone then
    ({ m with gather := some { required := m.idSet, acked := 0, elapsed := 0 }, queue := [] },
      { k with cancelCapture := k.cancelCapture || m.capture.isSome }, .gatherStarted m.queue)
  else (m, k, .nothing)

/-- R137. -/
def Image.arriveAck (m : Image) (sender : StationId) : Image :=
  match m.gather with
  | some g => if IdSet.has g.required sender then { m with gather := some { g with acked := IdSet.add g.acked sender } } else m
  | none => m

/-- The effect of one item on an image and its marks (R7, R80, R116, R133, R137, R142). -/
def Image.arrive (m : Image) (k : Marks) (sender : StationId) : Item → Image × Marks × ItemEffect
  | .haltAck => (m.arriveAck sender, k, .nothing)
  | .resumeReq => (m, if m.run = .halted then { k with resume := true } else k, .nothing)
  | .haltReq => m.arriveHalt k
  | .priorityReq cause total serial =>
    let (m', e) := m.arrivePriority sender cause total serial
    (m', k, e)
  | .leave => (m, { k with leavers := IdSet.add k.leavers sender }, .nothing)

/-! ### The cycle end of an image (R32) -/

/-- R71 and step 3 of R70: the entry after the cycle end, or none when it is removed. -/
def RosterEntry.cycleEnd (heard : IdSet) (e : RosterEntry) : Option RosterEntry :=
  if IdSet.has heard e.id then some { e with missed := 0, admitted := false }
  else if e.admitted then some { e with admitted := false }
  else if e.missed < 2 then some { e with missed := e.missed + 1 }
  else none

/-- An entry at its place in ascending id order (R72). -/
def insertEntry (e : RosterEntry) : List RosterEntry → List RosterEntry
  | [] => [e]
  | x :: rest => if e.id < x.id then e :: x :: rest else x :: insertEntry e rest

/-- Steps 1 to 3 of R70. -/
def rosterKept (roster : List RosterEntry) (k : Marks) (heard : IdSet) : List RosterEntry :=
  (roster.filter (fun e => !IdSet.has k.leavers e.id)).filterMap (RosterEntry.cycleEnd heard)

/-- R66: the removals of the cycle end leave no entry. -/
def Image.emptiedBy (m : Image) (k : Marks) (heard : IdSet) : Bool := (rosterKept m.roster k heard).isEmpty

/-- R72: the entry that the marked JOIN adds, if it is admitted. -/
def Image.admission (m : Image) (k : Marks) (heard : IdSet) : Option RosterEntry :=
  match k.join with
  | some (i, digest) =>
    if !m.lists i && decide ((rosterKept m.roster k heard).length < 16) && digest == m.digest then
      some { id := i, missed := 0, admitted := true }
    else none
  | none => none

/-- The roster after the cycle end (R70). -/
def Image.rosterAfter (m : Image) (k : Marks) (heard : IdSet) : List RosterEntry :=
  match m.admission k heard with
  | some e => insertEntry e (rosterKept m.roster k heard)
  | none => rosterKept m.roster k heard

/-- A JOIN that was marked and not admitted (R72). -/
def Image.refusesJoin (m : Image) (k : Marks) (heard : IdSet) : Bool :=
  k.join.isSome && (m.admission k heard).isNone

/-- The ids that the roster part removes. -/
def Image.removedIds (m : Image) (k : Marks) (heard : IdSet) : IdSet :=
  IdSet.minus m.idSet (IdSet.ofList ((rosterKept m.roster k heard).map (·.id)))

/-- R3: the epoch grows by one when an entry was removed or added. -/
def Image.epochAfter (m : Image) (k : Marks) (heard : IdSet) : Word16 :=
  if (m.admission k heard).isSome || decide ((rosterKept m.roster k heard).length < m.roster.length) then m.epoch + 1
  else m.epoch

/-- What the halt part of a cycle end did (R139, R143). -/
inductive HaltChange where
  | none
  | complete
  | incomplete (unacked : IdSet)
  | resumed
  deriving DecidableEq, Repr

/-- R138: the gather without the ids that the roster part removed. -/
def Gather.without (g : Gather) (removed : IdSet) : Gather :=
  { g with required := IdSet.minus g.required removed, acked := IdSet.minus g.acked removed }

/-- R138, R139, R143: run state, gather and what changed. -/
def haltPart (run : RunState) (gather : Option Gather) (resume : Bool) (removed : IdSet) :
    RunState × Option Gather × HaltChange :=
  match gather with
  | some g =>
    let h := g.without removed
    if IdSet.within h.required h.acked then (.halted, none, .complete)
    else if 7 ≤ h.elapsed then (.halted, none, .incomplete (IdSet.minus h.required h.acked))
    else (run, some { h with elapsed := h.elapsed + 1 }, .none)
  | none => if resume ∧ run = .halted then (.running, none, .resumed) else (run, none, .none)

/-- R118. -/
def capturePart (capture : Option Capture) (cancel : Bool) : Option Capture :=
  match capture with
  | some c => if cancel then none else if c.next + 1 < c.request.total then some { c with next := c.next + 1 } else none
  | none => none

/-- R119, judged on the image after its halt and capture parts. -/
def Image.promote (m : Image) : Image :=
  match m.queue with
  | r :: rest =>
    if m.capture.isNone ∧ m.run = .running ∧ m.gather.isNone then
      { m with queue := rest, capture := some { request := r, next := 0 } }
    else m
  | [] => m

/-- R91: `planLength` is the station's own L. A tracked image of another configuration keeps its cursor as carried (R87, log 19). -/
def Image.cursorAfter (m : Image) (plan : Option PhasePlan) (ownDigest : Digest) (planLength : Nat) : Nat :=
  match plan with
  | some p =>
    if p.type = .regular ∧ m.digest = ownDigest then (m.cursor + p.members) % planLength else m.cursor
  | none => m.cursor

/-- What the halt part does at this cycle end. -/
def Image.haltChange (m : Image) (k : Marks) (heard : IdSet) : HaltChange :=
  (haltPart m.run m.gather k.resume (m.removedIds k heard)).2.2

/-- Every part of the cycle end of an image (R32, R70, R91, R118, R119, R139, R143, R3). -/
def Image.cycleEnd (m : Image) (k : Marks) (heard : IdSet) (plan : Option PhasePlan) (ownDigest : Digest)
    (planLength : Nat) : Image :=
  let halted := haltPart m.run m.gather k.resume (m.removedIds k heard)
  Image.promote
    { m with
      epoch := m.epochAfter k heard
      cycle := m.cycle + 1
      roster := m.rosterAfter k heard
      run := halted.1
      gather := halted.2.1
      cursor := m.cursorAfter plan ownDigest planLength
      capture := capturePart m.capture k.cancelCapture }

/-! ### Records and pending items -/

/-- The records of the frame in flight return to the head of the queue in their order (R149). -/
def RecordTransport.returned (t : RecordTransport) : RecordTransport :=
  { t with queue := t.inFlight ++ t.queue, inFlight := [] }

/-- Records queued plus records in flight (R145). -/
def RecordTransport.occupancy (t : RecordTransport) : Nat := t.queue.length + t.inFlight.length

/-- R146, R147. -/
def RecordTransport.enter (t : RecordTransport) (r : Record) : RecordTransport :=
  if t.occupancy < 24 then { t with queue := t.queue ++ [{ r with gap := t.gapPending }], gapPending := false }
  else { t with gapPending := true }

/-- R148: the lesser of 12 and the number queued move into the frame in flight. -/
def RecordTransport.pack (t : RecordTransport) : RecordTransport :=
  { t with queue := t.queue.drop 12, inFlight := t.queue.take 12 }

/-- R150. -/
def RecordTransport.discarded (_t : RecordTransport) : RecordTransport := { queue := [], inFlight := [], gapPending := true }

/-- At a departure the pending set is discarded and the serial counter keeps its value (R110). -/
def ItemBuffer.discarded (b : ItemBuffer) : ItemBuffer := { ItemBuffer.afterReset with serial := b.serial }

/-- A post of a PRIORITY_REQ (R110, R113): taken while MEMBER and not departing, absorbed into a pending one. -/
def State.postRequest (cause : Cause) (total : Nat) (s : State) : State :=
  if s.sc.state = .member ∧ s.sc.departing = false then
    match s.cb.request with
    | some _ => s
    | none => s.setCb { s.cb with request := some (cause, total) }
  else s

/-- R126: the station's own request was refused or removed. -/
def State.refuse (reason : RefusalReason) (serial : Byte) (s : State) : State :=
  (s.setCp { s.cp with lastRefusal := some (reason, serial) }).raise .refused

/-- The receiver is on in LISTEN, JOINING and MEMBER (R51). -/
def State.receiverOn (s : State) : Bool :=
  match s.sc.state with
  | .listen | .joining | .member => true
  | .loading | .idle | .fault => false

/-- ARBITRATING or SENDING: a frame is in flight (R42). -/
def State.frameInFlight (s : State) : Bool :=
  match s.ti.tx with
  | .arbitrating | .sending => true
  | .idle | .armed | .aborting => false

/-- The converter is CONVERTING while the list in flight is not empty (R98). -/
def State.converting (s : State) : Bool := !s.sq.inFlight.isEmpty

/-! ### Departures and FAULT -/

/-- No frame: the transmitter is IDLE (R42, R49). -/
def TrunkInterface.noFrame (t : TrunkInterface) : TrunkInterface :=
  { t with tx := .idle, frame := none, startGuard := none, clashAfterAbort := false }

/-- An ARMED frame is abandoned; a frame being sent or aborted is left to its end (R49, R81). -/
def TrunkInterface.dropArmed (t : TrunkInterface) : TrunkInterface := if t.tx = .armed then t.noFrame else t

/-- The effects of every departure from MEMBER (R81, R101, R140, R150). -/
def State.leaveMember (s : State) : State :=
  ((((((s.setIu .empty).setTi s.ti.dropArmed).setCb s.cb.discarded).setRt s.rt.discarded).setSq
      { s.sq with inFlight := s.sq.inFlight.map (fun v => { v with discard := true }) }).setHalt .empty).setSc
    { s.sc with departing := false }

/-- The trunk side of a state that neither hears nor sends: CT STOPPED, receiver off, transmitter IDLE (R20, R42, R51). -/
def State.offTrunk (s : State) : State :=
  ((s.setIu .empty).setCt .stopped).setTi { s.ti.noFrame with receiving := none }

/-- IDLE: no image, off the trunk, the founding timer stopped, the holdoff kept (R62, R80). -/
def State.enterIdle (s : State) : State :=
  s.offTrunk.setSc { s.sc with state := .idle, departing := false, founding := none, deferredLeave := false }

/-- FAULT (R85); a station that was MEMBER meets the effects of R81 first. -/
def State.enterFault (reason : FaultReason) (s : State) : State :=
  let s := if s.sc.state = .member then s.leaveMember else s
  (s.offTrunk.setSc
    { s.sc with state := .fault, faultReason := some reason, holdoff := none, founding := none, deferredLeave := false }).raise .fault

/-- LISTEN holding no image: CT UNTIMED, founding timer started (R20, R64). -/
def State.listenUntimed (c : StationConfig) (now : Instant) (s : State) : State :=
  ((s.setIu .empty).setCt { CycleTimer.stopped with state := .untimed }).setSc
    { s.sc with state := .listen, founding := some (now + foundingWait c) }

/-- The instant of phase p of a plan of N members: the mark plus p × T / N (R34). -/
def phaseInstant (c : StationConfig) (mark : Instant) (members p : Nat) : Instant := mark + p * periodOf c / members

end Sys2Proof.Machine
end

