-- ==== Sys2Proof/Machine/Operands.lean ====
section
/-! DEFINITION. The forms that bytes take: CRCs, the line coding of frames, trunk frames read and written, the structure check, the configuration image. -/

namespace Sys2Proof.Machine

/-! ### Bytes and bits -/

/-- The bits of a byte, most significant first (12_formats.md, opening). -/
def bitsOf (b : Byte) : List Bool :=
  [b.getLsbD 7, b.getLsbD 6, b.getLsbD 5, b.getLsbD 4, b.getLsbD 3, b.getLsbD 2, b.getLsbD 1, b.getLsbD 0]

/-- The byte whose bits, most significant first, are given. -/
def byteOf (b7 b6 b5 b4 b3 b2 b1 b0 : Bool) : Byte :=
  (BitVec.ofBool b7 ++ BitVec.ofBool b6 ++ BitVec.ofBool b5 ++ BitVec.ofBool b4 : BitVec 4) ++
    (BitVec.ofBool b3 ++ BitVec.ofBool b2 ++ BitVec.ofBool b1 ++ BitVec.ofBool b0 : BitVec 4)

/-- A 16-bit field as two bytes, high byte first. -/
def bytesOf16 (w : Word16) : List Byte := [w.extractLsb' 8 8, w.extractLsb' 0 8]

/-- A 32-bit field as four bytes, high byte first. -/
def bytesOf32 (w : Digest) : List Byte := [w.extractLsb' 24 8, w.extractLsb' 16 8, w.extractLsb' 8 8, w.extractLsb' 0 8]

/-- A number below 16 in the high half of a byte and one in the low half. -/
def twoNibbles (high low : Nat) : Byte := BitVec.ofNat 4 high ++ BitVec.ofNat 4 low

/-- Bits 7 to 4 of a byte. -/
def highNibble (b : Byte) : Fin 16 := (b.extractLsb' 4 4).toFin

/-- Bits 3 to 0 of a byte. -/
def lowNibble (b : Byte) : Fin 16 := (b.extractLsb' 0 4).toFin

/-! ### CRCs -/

/-- The CRC-16 register after further content bits (R41): each bit shifts it, and the polynomial x^16 + x^12 + x^5 + 1 is added when the bit shifted out differs from the content bit. -/
def crc16Bits (crc : Word16) : List Bool → Word16
  | [] => crc
  | bit :: rest => if crc.getLsbD 15 != bit then crc16Bits ((crc <<< 1) ^^^ 0x1021#16) rest else crc16Bits (crc <<< 1) rest

/-- The CRC-16 of content bytes: initial value all ones, most significant bit first, no final inversion (R41). -/
def crc16 (content : List Byte) : Word16 := crc16Bits 0xFFFF#16 (content.flatMap bitsOf)

/-- The CRC-32 register after further bits, least significant bit first: the polynomial of R181 with its bits in reverse. -/
def crc32Bits (crc : Digest) : List Bool → Digest
  | [] => crc
  | bit :: rest => if crc.getLsbD 0 != bit then crc32Bits ((crc >>> 1) ^^^ 0xEDB88320#32) rest else crc32Bits (crc >>> 1) rest

/-- The CRC-32 of R181: initial value all ones, the final value inverted. -/
def crc32 (content : List Byte) : Digest :=
  ~~~(crc32Bits 0xFFFFFFFF#32 (content.flatMap (fun b => (bitsOf b).reverse)))

/-! ### Trunk frames written (12.1) -/

/-- Cause code of bits 7-6 of a PRIORITY_REQ's byte A. -/
def Cause.code : Cause → Nat
  | .external => 1 | .range => 2 | .command => 3

/-- Byte A of a PRIORITY_REQ: cause, 0, repeat total. -/
def requestByteA (cause : Cause) (total : Nat) : Byte := twoNibbles (cause.code * 4) total

/-- Kind byte of an item; the fixed order of R48 is the ascending order of these codes. -/
def Item.code : Item → Nat
  | .haltAck => 1 | .resumeReq => 2 | .haltReq => 3 | .priorityReq _ _ _ => 4 | .leave => 5

def encodeItem : Item → List Byte
  | .haltAck => [1]
  | .resumeReq => [2]
  | .haltReq => [3]
  | .priorityReq cause total serial => [4, requestByteA cause total, serial]
  | .leave => [5]

/-- Byte 0 of a record: kind, channel, LOW, HIGH, CLAMPED, GAP. -/
def recordByte0 (r : Record) : Byte :=
  let kind := match r.kind with
    | .regular _ => false
    | .priority _ _ _ _ => true
  BitVec.ofBool kind ++ BitVec.ofNat 3 r.channel.val ++
    (BitVec.ofBool r.low ++ BitVec.ofBool r.high ++ BitVec.ofBool r.clamped ++ BitVec.ofBool r.gap : BitVec 4)

/-- Bytes 3-4 of a record: entry index or requester id above the value. -/
def recordWord (top : Fin 16) (value : Sample) : Word16 := BitVec.ofFin top ++ value

/-- Byte 6 of a PRIORITY record: repeat index in bits 6-4, group element in bits 1-0. -/
def recordByte6 (repeatIndex : Fin 8) (element : Fin 4) : Byte := twoNibbles repeatIndex.val element.val

/-- A trunk record: 5 bytes for REGULAR, 7 for PRIORITY. -/
def encodeRecord (r : Record) : List Byte :=
  match r.kind with
  | .regular entry => recordByte0 r :: bytesOf16 r.cycle ++ bytesOf16 (recordWord entry r.value)
  | .priority requester serial repeatIndex element =>
    recordByte0 r :: bytesOf16 r.cycle ++ bytesOf16 (recordWord requester r.value) ++
      [serial, recordByte6 repeatIndex element]

/-- A roster entry: id, missed count, admitted flag, 0. -/
def encodeEntry (e : RosterEntry) : Byte := twoNibbles e.id.val (e.missed * 4 + if e.admitted then 2 else 0)

/-- A queued request: requester, 0, then bytes A and B. -/
def encodeRequest (r : Request) : List Byte := [twoNibbles r.requester.val 0, requestByteA r.cause r.total, r.serial]

def encodeCapture (c : Capture) : List Byte :=
  [twoNibbles c.request.requester.val c.next, requestByteA c.request.cause c.request.total, c.request.serial]

def encodeGather (g : Gather) : List Byte := bytesOf16 g.required ++ bytesOf16 g.acked ++ [BitVec.ofNat 8 g.elapsed]

/-- The summary's byte of run state and presence bits. -/
def summaryFlags (m : Image) : Byte :=
  (BitVec.ofBool (m.run = .halted) ++ BitVec.ofBool m.capture.isSome ++ BitVec.ofBool m.gather.isSome : BitVec 3) ++ 0#5

/-- A summary: 12 + M + 3 × Q bytes, with 3 more for a capture and 5 more for a gather. -/
def encodeSummary (m : Image) : List Byte :=
  bytesOf16 m.epoch ++ bytesOf16 m.cycle ++ [summaryFlags m, BitVec.ofNat 8 m.cursor] ++ bytesOf32 m.digest ++
    (BitVec.ofNat 8 m.roster.length :: m.roster.map encodeEntry) ++
    (BitVec.ofNat 8 m.queue.length :: m.queue.flatMap encodeRequest) ++
    (match m.capture with | some c => encodeCapture c | none => []) ++
    (match m.gather with | some g => encodeGather g | none => [])

/-- The content bytes of a BEAT before its CRC. -/
def beatContent (b : Beat) : List Byte :=
  twoNibbles b.sender.val (4 + (if b.summary.isSome then 2 else 0) + (if b.doubt then 1 else 0)) ::
    bytesOf16 b.epoch ++ bytesOf16 b.cycle ++
    [twoNibbles b.position.val b.records.length, BitVec.ofNat 8 b.items.length] ++
    b.items.flatMap encodeItem ++ b.records.flatMap encodeRecord ++
    (match b.summary with | some m => encodeSummary m | none => [])

/-- The content bytes of a JOIN before its CRC. -/
def joinContent (sender : StationId) (digest : Digest) : List Byte := twoNibbles sender.val 8 :: bytesOf32 digest

/-- The CRC follows the content, most significant bit first (R41). -/
def withCrc (content : List Byte) : List Byte := content ++ bytesOf16 (crc16 content)

/-- The levels of a frame on the line: a dominant start mark, then each byte followed by its group mark, the complement of its last bit (R39, R40). -/
def lineOf (bytes : List Byte) : List Bool := false :: bytes.flatMap (fun b => bitsOf b ++ [!b.getLsbD 0])

/-! ### Trunk frames read (R40, R41, R189) -/

/-- A frame as received. `fieldsInRange` says that no item kind, cause code or summary field held a code that names no value (R189). -/
inductive RxFrame where
  | beat (b : Beat) (fieldsInRange : Bool)
  | join (sender : StationId) (digest : Digest)
  deriving DecidableEq, Repr

/-- What the receiver has at a frame end (R40, R41). -/
inductive Reception where
  | cutShort
  | whole (frame : RxFrame) (crcMatches : Bool)
  deriving DecidableEq, Repr

/-- Whether some level stays on the line for ten bit times in a row (R40): `run` counts the bit times of `level` so far. -/
def tenInARow (level : Bool) (run : Nat) : List Bool → Bool
  | [] => decide (10 ≤ run)
  | x :: rest => if 10 ≤ run then true else if x = level then tenInARow level (run + 1) rest else tenInARow x 1 rest

/-- Groups of eight content bits, each followed by its group mark; none when the levels end within a group. -/
def groupsOf : List Bool → Option (List Byte)
  | [] => some []
  | b7 :: b6 :: b5 :: b4 :: b3 :: b2 :: b1 :: b0 :: _ :: rest =>
    match groupsOf rest with
    | some bytes => some (byteOf b7 b6 b5 b4 b3 b2 b1 b0 :: bytes)
    | none => none
  | _ => none

def causeOfCode (code : Nat) : Option Cause :=
  match code with
  | 1 => some .external
  | 2 => some .range
  | 3 => some .command
  | _ => none

/-- Cause and repeat total of a byte A. -/
def causeOfByteA (a : Byte) : Option Cause := causeOfCode (a.extractLsb' 6 2).toNat

def totalOfByteA (a : Byte) : Nat := (lowNibble a).val

/-- One item and the rest of the bytes (R189): none when the bytes end; an item of `none` is a field out of range. -/
def takeItem : List Byte → Option (Option Item × List Byte)
  | [] => none
  | k :: rest =>
    if k = 4 then
      match rest with
      | a :: serial :: rest' => some ((causeOfByteA a).map (fun c => .priorityReq c (totalOfByteA a) serial), rest')
      | _ => none
    else
      some (match k.toNat with
        | 1 => some .haltAck
        | 2 => some .resumeReq
        | 3 => some .haltReq
        | 5 => some .leave
        | _ => none, rest)

/-- As many items as the item count states. -/
def takeItems : Nat → List Byte → Option (List (Option Item) × List Byte)
  | 0, bytes => some ([], bytes)
  | n + 1, bytes => do
    let (i, rest) ← takeItem bytes
    let (items, rest') ← takeItems n rest
    return (i :: items, rest')

/-- The fields that both kinds of record share. -/
def recordFrom (kind : RecordKind) (b0 c1 c0 v1 v0 : Byte) : Record :=
  { kind, channel := (b0.extractLsb' 4 3).toFin, cycle := c1 ++ c0, value := (v1 ++ v0 : Word16).extractLsb' 0 12,
    low := b0.getLsbD 3, high := b0.getLsbD 2, clamped := b0.getLsbD 1, gap := b0.getLsbD 0 }

/-- One record, 5 or 7 bytes long by its kind bit (R189). Bits 7, 3 and 2 of byte 6, which 12.1 marks 0, are not kept, so that a delivered record shows them 0 (log 43). -/
def takeRecord : List Byte → Option (Record × List Byte)
  | b0 :: c1 :: c0 :: v1 :: v0 :: rest =>
    if b0.getLsbD 7 then
      match rest with
      | serial :: b6 :: rest' =>
        some (recordFrom (.priority (highNibble v1) serial (b6.extractLsb' 4 3).toFin (b6.extractLsb' 0 2).toFin)
          b0 c1 c0 v1 v0, rest')
      | _ => none
    else some (recordFrom (.regular (highNibble v1)) b0 c1 c0 v1 v0, rest)
  | _ => none

/-- As many records as the record count states. -/
def takeRecords : Nat → List Byte → Option (List Record × List Byte)
  | 0, bytes => some ([], bytes)
  | n + 1, bytes => do
    let (r, rest) ← takeRecord bytes
    let (records, rest') ← takeRecords n rest
    return (r :: records, rest')

def entryFrom (b : Byte) : RosterEntry :=
  { id := highNibble b, missed := (b.extractLsb' 2 2).toNat, admitted := b.getLsbD 1 }

/-- The first `n` bytes and the rest. -/
def takeBytes (n : Nat) (bytes : List Byte) : Option (List Byte × List Byte) :=
  if bytes.length < n then none else some (bytes.take n, bytes.drop n)

/-- A request from requester byte, byte A and byte B; none for a cause code that names no cause. -/
def requestFrom (q a serial : Byte) : Option Request :=
  (causeOfByteA a).map (fun c => { requester := highNibble q, cause := c, total := totalOfByteA a, serial })

/-- As many queued requests as the queue count states. -/
def takeQueue : Nat → List Byte → Option (List (Option Request) × List Byte)
  | 0, bytes => some ([], bytes)
  | n + 1, q :: a :: serial :: rest => do
    let (queue, rest') ← takeQueue n rest
    return (requestFrom q a serial :: queue, rest')
  | _ + 1, _ => none

/-- The active capture if its bit says that it is present; `some none` inside stands for a cause code that names no cause. -/
def takeCapture (present : Bool) (bytes : List Byte) : Option (Option (Option Capture) × List Byte) :=
  if present then
    match bytes with
    | q :: a :: serial :: rest =>
      some (some ((requestFrom q a serial).map (fun r => { request := r, next := (q.extractLsb' 0 3).toNat })), rest)
    | _ => none
  else some (none, bytes)

/-- The halt gather if its bit says that it is present. -/
def takeGather (present : Bool) (bytes : List Byte) : Option (Option Gather × List Byte) :=
  if present then
    match bytes with
    | r1 :: r0 :: a1 :: a0 :: e :: rest => some (some { required := r1 ++ r0, acked := a1 ++ a0, elapsed := e.toNat }, rest)
    | _ => none
  else some (none, bytes)

/-- The list of values, when every element names one. -/
def allSome {α : Type} : List (Option α) → Option (List α)
  | [] => some []
  | some x :: rest => (allSome rest).map (x :: ·)
  | none :: _ => none

/-- The optional capture of a summary as the image holds it; none when its cause code names no cause. -/
def captureField : Option (Option Capture) → Option (Option Capture)
  | none => some none
  | some none => none
  | some (some c) => some (some c)

/-- A summary and the rest of the bytes; `none` inside stands for a cause code that names no cause (R189). -/
def takeSummary : List Byte → Option (Option Image × List Byte)
  | e1 :: e0 :: c1 :: c0 :: f :: cursor :: d3 :: d2 :: d1 :: d0 :: count :: rest => do
    let (entries, rest1) ← takeBytes count.toNat rest
    match rest1 with
    | [] => none
    | q :: rest2 =>
      let (queue, rest3) ← takeQueue q.toNat rest2
      let (capture, rest4) ← takeCapture (f.getLsbD 6) rest3
      let (gather, rest5) ← takeGather (f.getLsbD 5) rest4
      let image : Option Image := do
        let queue ← allSome queue
        let capture ← captureField capture
        return { epoch := e1 ++ e0, cycle := c1 ++ c0, digest := (d3 ++ d2 : Word16) ++ (d1 ++ d0 : Word16),
                 roster := entries.map entryFrom, run := if f.getLsbD 7 then .halted else .running, gather,
                 cursor := cursor.toNat, queue, capture }
      return (image, rest5)
  | _ => none

/-- The summary of a BEAT if its SUMMARY flag says that it is present. -/
def takeSummaryIf (present : Bool) (bytes : List Byte) : Option (Option (Option Image) × List Byte) :=
  if present then (takeSummary bytes).map (fun x => (some x.1, x.2)) else some (none, bytes)

/-- A BEAT after its byte 0 (12.1): header, items, records, summary. -/
def takeBeat (b0 : Byte) : List Byte → Option (RxFrame × List Byte)
  | e1 :: e0 :: c1 :: c0 :: b5 :: b6 :: rest => do
    let (items, rest1) ← takeItems (b6.extractLsb' 0 3).toNat rest
    let (records, rest2) ← takeRecords (lowNibble b5).val rest1
    let (summary, rest3) ← takeSummaryIf (b0.getLsbD 1) rest2
    return (.beat
      { sender := highNibble b0, doubt := b0.getLsbD 0, epoch := e1 ++ e0, cycle := c1 ++ c0, position := highNibble b5,
        items := items.filterMap id, records, summary := summary.join }
      ((allSome items).isSome && summary != some none), rest3)
  | _ => none

/-- A JOIN after its byte 0. -/
def takeJoin (b0 : Byte) : List Byte → Option (RxFrame × List Byte)
  | d3 :: d2 :: d1 :: d0 :: rest => some (.join (highNibble b0) ((d3 ++ d2 : Word16) ++ (d1 ++ d0 : Word16)), rest)
  | _ => none

/-- The content of a frame and the bytes after it; none for a kind field that names no kind, or when the bytes end. -/
def takeFrame : List Byte → Option (RxFrame × List Byte)
  | [] => none
  | b0 :: rest =>
    match (b0.extractLsb' 2 2).toNat with
    | 1 => takeBeat b0 rest
    | 2 => takeJoin b0 rest
    | _ => none

/-- What bytes taken whole are: a frame followed by the two bytes of its CRC (R41, R189). Bytes that end before or go on after the frame's own length are no whole frame (log 10). -/
def receiveBytes (bytes : List Byte) : Reception :=
  match takeFrame bytes with
  | some (frame, [high, low]) => .whole frame (crc16 (bytes.take (bytes.length - 2)) == high ++ low)
  | _ => .cutShort

/-- What the receiver has at the frame end, from the levels of the line (R39, R40). -/
def receiveLine : List Bool → Reception
  | false :: rest =>
    if tenInARow false 1 rest then .cutShort
    else match groupsOf rest with
      | some bytes => receiveBytes bytes
      | none => .cutShort
  | _ => .cutShort

/-! ### The structure check (R53) -/

/-- Ids strictly ascending. -/
def idsAscending : List StationId → Bool
  | [] => true
  | [_] => true
  | x :: y :: rest => decide (x < y) && idsAscending (y :: rest)

/-- No requester twice. -/
def distinctRequesters : List Request → Bool
  | [] => true
  | r :: rest => rest.all (fun q => q.requester != r.requester) && distinctRequesters rest

def totalOk (n : Nat) : Bool := decide (1 ≤ n) && decide (n ≤ 8)

/-- Roster laws of R53. -/
def Image.rosterOk (m : Image) : Bool :=
  decide (1 ≤ m.roster.length) && decide (m.roster.length ≤ 16) && idsAscending m.ids && m.roster.all (fun e => decide (e.missed ≤ 2))

/-- Queue laws of R53 (R117). -/
def Image.queueOk (m : Image) : Bool :=
  decide (m.queue.length ≤ 4) && distinctRequesters m.queue && m.queue.all (fun r => totalOk r.total) &&
    (match m.capture with
      | some c => m.queue.all (fun r => r.requester != c.request.requester)
      | none => true)

/-- Capture law of R53 (R118). -/
def Image.captureOk (m : Image) : Bool :=
  match m.capture with
  | some c => totalOk c.request.total && decide (c.next < c.request.total)
  | none => true

/-- Gather law of R53 (R130). -/
def Image.gatherOk (m : Image) : Bool :=
  match m.gather with
  | some g => IdSet.within g.acked g.required && IdSet.within g.required m.idSet && decide (g.elapsed ≤ 7)
  | none => true

/-- HALTED law of R53 (R125). -/
def Image.haltedOk (m : Image) : Bool :=
  match m.run with
  | .halted => m.queue.isEmpty && m.capture.isNone && m.gather.isNone
  | .running => true

/-- The laws an image obeys, as R53 lists them. -/
def Image.lawful (m : Image) : Bool := m.rosterOk && m.queueOk && m.captureOk && m.gatherOk && m.haltedOk

/-- Item kinds in the fixed order, none twice (R53). -/
def codesAscending : List Nat → Bool
  | [] => true
  | [_] => true
  | x :: y :: rest => decide (x < y) && codesAscending (y :: rest)

def Item.totalInRange : Item → Bool
  | .priorityReq _ total _ => totalOk total
  | .haltAck | .resumeReq | .haltReq | .leave => true

/-- The cursor law of R53: judged only against a summary of the station's own digest. -/
def summaryCursorOk (c : StationConfig) (m : Image) : Bool := m.digest != c.digest || decide (m.cursor < c.plan.length)

/-- R53: whether a clean BEAT has a sound structure. -/
def Beat.structureOk (c : StationConfig) (b : Beat) (fieldsInRange : Bool) : Bool :=
  fieldsInRange && !(b.doubt && (!b.items.isEmpty || b.summary.isSome)) && decide (b.items.length ≤ 4) &&
    codesAscending (b.items.map Item.code) && !(b.items.contains .haltReq && b.items.contains .resumeReq) &&
    decide (b.records.length ≤ 12) && b.items.all Item.totalInRange &&
    (match b.summary with
      | some m => m.lawful && summaryCursorOk c m
      | none => true)

/-! ### The configuration image (12.3, R181, R182, R184, R190) -/

/-- T_min of a bit-rate class in µs (R185); none for a rate that is no class. -/
def minimumPeriod (rate : Nat) : Option Nat :=
  match rate with
  | 1 => some 24000
  | 2 => some 12000
  | 5 => some 5000
  | 10 => some 2500
  | _ => none

def joinModeOfCode (n : Nat) : Option JoinMode :=
  match n with
  | 0 => some .auto
  | 1 => some .manual
  | 2 => some .observe
  | _ => none

/-- Byte `i` of the image. -/
def imageByteAt (b : List Byte) (i : Nat) : Byte := b.getD i 0

/-- Bytes `i` and `i + 1`, high byte first. -/
def imageWordAt (b : List Byte) (i : Nat) : Word16 := imageByteAt b i ++ imageByteAt b (i + 1)

/-- A plan or group place: monitor flag in bit 7, channel in bits 2-0. -/
def placeAt (b : List Byte) (i : Nat) : PlanEntry :=
  { channel := ((imageByteAt b i).extractLsb' 0 3).toFin, monitored := (imageByteAt b i).getLsbD 7 }

/-- The used places: `n` of them from byte `i` on. -/
def placesFrom (b : List Byte) (i n : Nat) : List PlanEntry := (List.range n).map (fun k => placeAt b (i + k))

/-- The offset of channel `k`. -/
def offsetAt (b : List Byte) (k : Nat) : Int := (imageWordAt b (32 + 2 * k)).toInt

/-- Window `k`: three bytes from 53 on. -/
def windowAt (b : List Byte) (k : Nat) : Window :=
  { enabled := (imageByteAt b (53 + 3 * k)).getLsbD 7, takesRegular := (imageByteAt b (53 + 3 * k)).getLsbD 0,
    takesPriority := (imageByteAt b (53 + 3 * k)).getLsbD 1, base := (imageByteAt b (54 + 3 * k)).toNat,
    limit := (imageByteAt b (55 + 3 * k)).toNat }

/-- R190: a window is judged only while its enable is set. -/
def windowInRange (w : Window) : Bool :=
  !w.enabled || ((w.takesRegular || w.takesPriority) && decide (w.base < 128) && decide (w.limit < 128))

def offsetInRange (x : Int) : Bool := decide (-512 ≤ x) && decide (x ≤ 511)

/-- The fields that an image codes, with a digest of 0 until R184 computes it; none when a field holds a code that names no value. -/
def fieldsOf (b : List Byte) : Option StationConfig := do
  let joinMode ← joinModeOfCode (imageByteAt b 2).toNat
  if h : (imageByteAt b 1).toNat < 16 then
    return {
      id := ⟨(imageByteAt b 1).toNat, h⟩
      joinMode
      autorun := (imageByteAt b 3).getLsbD 0
      rate := (imageByteAt b 4).toNat
      period := (imageWordAt b 5).toNat
      silence := (imageByteAt b 7).toNat
      plan := placesFrom b 9 (imageByteAt b 8).toNat
      group := placesFrom b 26 (imageByteAt b 25).toNat
      externalTotal := (imageByteAt b 30).toNat
      rangeTotal := (imageByteAt b 31).toNat
      offsets := #v[offsetAt b 0, offsetAt b 1, offsetAt b 2, offsetAt b 3, offsetAt b 4, offsetAt b 5, offsetAt b 6, offsetAt b 7]
      rangeLow := (imageWordAt b 48).toNat
      rangeHigh := (imageWordAt b 50).toNat
      autoRequest := (imageByteAt b 52).getLsbD 0
      windows := #v[windowAt b 0, windowAt b 1, windowAt b 2, windowAt b 3]
      closeAgeLimit := (imageByteAt b 65).toNat
      digest := 0 }
  else none

/-- R182: T against T_min of the class that the image names (R185). -/
def periodInRange (c : StationConfig) : Bool :=
  match minimumPeriod c.rate with
  | some low => decide (low ≤ c.period) && decide (c.period ≤ 60000)
  | none => false

/-- R182, R190: the fields that a code alone does not settle. -/
def configInRange (c : StationConfig) : Bool :=
  periodInRange c && decide (8 ≤ c.silence) && decide (c.silence ≤ 250) && decide (1 ≤ c.plan.length) &&
    decide (c.plan.length ≤ 16) && decide (1 ≤ c.group.length) && decide (c.group.length ≤ 4) && totalOk c.externalTotal &&
    totalOk c.rangeTotal && c.offsets.toList.all offsetInRange && decide (c.rangeLow ≤ c.rangeHigh) &&
    decide (c.rangeHigh ≤ 4095) && c.windows.toList.all windowInRange

/-- The bytes that the plan digest is taken over (R184). -/
def digestBytes (c : StationConfig) : List Byte :=
  BitVec.ofNat 8 c.rate :: bytesOf16 (BitVec.ofNat 16 c.period) ++ [BitVec.ofNat 8 c.silence, BitVec.ofNat 8 c.plan.length] ++
    c.plan.map (fun e => BitVec.ofNat 8 e.channel.val) ++ [BitVec.ofNat 8 c.group.length] ++
    c.group.map (fun e => BitVec.ofNat 8 e.channel.val)

/-- The CRC-32 held in bytes 68 to 71, least significant byte first. -/
def imageCrc (b : List Byte) : Digest :=
  (imageByteAt b 71 ++ imageByteAt b 70 : Word16) ++ (imageByteAt b 69 ++ imageByteAt b 68 : Word16)

/-- The checks of R181 in their order: the fault reason of the first that fails, or the fields with their plan digest. -/
def checkImage (b : List Byte) : Except FaultReason StationConfig :=
  if crc32 (b.take 68) != imageCrc b then .error .imageCrc
  else if imageByteAt b 0 != 1 then .error .imageVersion
  else match fieldsOf b with
    | some c => if configInRange c then .ok { c with digest := crc32 (digestBytes c) } else .error .imageRange
    | none => .error .imageRange

/-- The alert mask of the image (12.3). -/
def imageAlertMask (b : List Byte) : Word16 := imageWordAt b 66

end Sys2Proof.Machine
end

