-- ==== Sys2Proof/Machine/Delivery.lean ====
section
/-! DEFINITION. Acceptance windows and the delivery halves (R154 to R167). -/

namespace Sys2Proof.Machine

def HalfId.other : HalfId → HalfId
  | .h0 => .h1
  | .h1 => .h0

def DeliveryUnit.get (d : DeliveryUnit) : HalfId → Half
  | .h0 => d.h0
  | .h1 => d.h1

def DeliveryUnit.set (d : DeliveryUnit) (h : HalfId) (x : Half) : DeliveryUnit :=
  match h with
  | .h0 => { d with h0 := x }
  | .h1 => { d with h1 := x }

def Half.isFree : Half → Bool
  | .free => true
  | .filling _ _ | .closed _ _ _ => false

def Half.isFilling : Half → Bool
  | .filling _ _ => true
  | .free | .closed _ _ _ => false

def Half.isClosed : Half → Bool
  | .closed _ _ _ => true
  | .free | .filling _ _ => false

def Half.records : Half → List Delivered
  | .free => []
  | .filling records _ => records
  | .closed records _ _ => records

/-- The close age of a FILLING half. -/
def Half.age : Half → Nat
  | .filling _ age => age
  | .free | .closed _ _ _ => 0

/-- The half that is FILLING, if any. -/
def DeliveryUnit.filling (d : DeliveryUnit) : Option HalfId :=
  if d.h0.isFilling then some .h0 else if d.h1.isFilling then some .h1 else none

/-- A FREE half beside a closing one becomes FILLING (R161, step 3). -/
def Half.startedIfFree (x : Half) : Half := if x.isFree then .filling [] 0 else x

/-- R161: the close of a half, its event flag apart. -/
def DeliveryUnit.closeHalf (d : DeliveryUnit) (h : HalfId) (cause : CloseCause) : DeliveryUnit :=
  let other := d.get h.other
  let closed := d.set h (.closed (d.get h).records d.counter cause)
  { closed.set h.other other.startedIfFree with
    counter := d.counter + 1
    first := if other.isClosed then some h.other else some h }

/-- R161: the close of a half, with the CLOSED event flag. -/
def State.closeHalf (h : HalfId) (cause : CloseCause) (s : State) : State :=
  (s.setDu (s.du.closeHalf h cause)).raise .closed

/-- R159: a record enters the FILLING half at its tail, and the 64th closes it. -/
def State.placeIn (h : HalfId) (origin : StationId) (r : Record) (s : State) : State :=
  let records := (s.du.get h).records ++ [{ record := r, origin, dropped := s.du.droppedPending }]
  let placed := s.setDu { s.du.set h (.filling records (s.du.get h).age) with droppedPending := false }
  if 64 ≤ records.length then placed.closeHalf h .full else placed

/-- R160: with neither half FILLING the record is dropped. -/
def State.dropRecord (s : State) : State :=
  (s.setDu { s.du with droppedPending := true, dropped := saturate65535 s.du.dropped }).raise .dropped

/-- One accepted record reaches the delivery unit (R159, R160). -/
def State.deliver (origin : StationId) (s : State) (r : Record) : State :=
  match s.du.filling with
  | some h => s.placeIn h origin r
  | none => s.dropRecord

/-- R162: the FILLING half ages at a cycle end. -/
def State.ageHalf (c : StationConfig) (s : State) : State :=
  match s.du.filling with
  | some h =>
    let records := (s.du.get h).records
    let age := (s.du.get h).age + 1
    if records.isEmpty then s
    else if c.closeAgeLimit ≠ 0 ∧ age = c.closeAgeLimit then
      (s.setDu (s.du.set h (.filling records age))).closeHalf h .age
    else if age ≤ 255 then s.setDu (s.du.set h (.filling records age))
    else (s.setDu (s.du.set h (.filling records (Config.closeAgePast255 s.free).toNat))).setFree (s.free + 1)
  | none => s

/-! ### Acceptance (9.5) -/

/-- R155: origin id × 8 + channel. -/
def streamNumber (origin : StationId) (r : Record) : Nat := origin.val * 8 + r.channel.val

def RecordKind.isRegular : RecordKind → Bool
  | .regular _ => true
  | .priority _ _ _ _ => false

/-- R156. -/
def windowMatches (w : Window) (origin : StationId) (r : Record) : Bool :=
  w.enabled && (if r.kind.isRegular then w.takesRegular else w.takesPriority) &&
    decide (w.base ≤ streamNumber origin r) && decide (streamNumber origin r ≤ w.limit)

/-- R156: a record is accepted when at least one window matches it. -/
def accepts (c : StationConfig) (origin : StationId) (r : Record) : Bool :=
  c.windows.toList.any (fun w => windowMatches w origin r)

/-- R157: the accepted records of a frame are delivered one at a time, in frame order. -/
def State.handOver (c : StationConfig) (origin : StationId) (records : List Record) (s : State) : State :=
  (records.filter (accepts c origin)).foldl (State.deliver origin) s

/-! ### Reading a closed half (R165, R166) -/

/-- The signed offset of a cycle number from another (R166). -/
def cycleOffset (first x : Word16) : Int := (x - first).toInt

/-- The cycle number with the smallest offset. -/
def lowestCycle (first : Word16) (cycles : List Word16) : Word16 :=
  cycles.foldl (fun best x => if cycleOffset first x < cycleOffset first best then x else best) first

/-- The cycle number with the largest offset. -/
def highestCycle (first : Word16) (cycles : List Word16) : Word16 :=
  cycles.foldl (fun best x => if cycleOffset first best < cycleOffset first x then x else best) first

/-- The cycle number of a half's first record. -/
def firstCycle (records : List Delivered) : Word16 :=
  match records with
  | d :: _ => d.record.cycle
  | [] => 0

/-- R164: the first closed half is discarded and becomes FREE, or FILLING when neither half fills. -/
def DeliveryUnit.releaseHalf (d : DeliveryUnit) (h : HalfId) : DeliveryUnit :=
  let other := d.get h.other
  { d.set h (if other.isFilling then .free else .filling [] 0) with
    first := if other.isClosed then some h.other else none }

/-- R158: the states that the two halves can form, their sizes and the close order. -/
def DeliveryUnit.wf (d : DeliveryUnit) : Bool :=
  (match d.h0, d.h1 with
    | .filling r a, .free | .free, .filling r a => decide (r.length < 64) && decide (a ≤ 255) && d.first.isNone
    | .filling r a, .closed q _ _ =>
      decide (r.length < 64) && decide (a ≤ 255) && decide (1 ≤ q.length) && decide (q.length ≤ 64) && d.first == some .h1
    | .closed q _ _, .filling r a =>
      decide (r.length < 64) && decide (a ≤ 255) && decide (1 ≤ q.length) && decide (q.length ≤ 64) && d.first == some .h0
    | .closed q _ _, .closed r _ _ =>
      decide (1 ≤ q.length) && decide (q.length ≤ 64) && decide (1 ≤ r.length) && decide (r.length ≤ 64) && d.first.isSome
    | .filling _ _, .filling _ _ | .free, .free | .free, .closed _ _ _ | .closed _ _ _, .free => false) &&
    decide (d.dropped ≤ 65535)

end Sys2Proof.Machine
end

