-- ==== Sys2Proof/Machine/Cycle.lean ====
section
/-! DEFINITION. The trunk cycle (R20 to R38): openings, slots, frame assembly, the join window, the cycle end, the timing taken from a summary; and the commands of the cycle timer. -/

namespace Sys2Proof.Machine

/-! ### The phase plan (R35, R36) -/

/-- The plan that an image gives; `departing` takes its conversions out (R78). -/
def planFor (c : StationConfig) (departing : Bool) (m : Image) : PhasePlan :=
  { cycle := m.cycle, type := m.cycleType, members := m.roster.length, position := m.position c.id, cursor := m.cursor,
    capture := m.capture, suppressed := departing }

/-- The phase at which a plan calls for a conversion, if it calls for one. -/
def PhasePlan.called (p : PhasePlan) : Option Nat :=
  if p.suppressed then none
  else match p.type with
    | .regular => p.position
    | .priority => p.position.map (fun _ => 0)
    | .drain | .halted => none

/-- The plan entry assigned by a plan, of a plan list of `planLength` entries (R88, R97). -/
def PhasePlan.assignedEntry (p : PhasePlan) (planLength : Nat) : Option Nat :=
  match p.type with
  | .regular => p.called.map (fun q => (p.cursor + q) % planLength)
  | .priority | .drain | .halted => none

/-- N as the CT holds it. -/
def CycleTimer.members (t : CycleTimer) : Nat :=
  match t.plan with
  | some p => p.members
  | none => 0

/-- The own position as the CT holds it. -/
def CycleTimer.position (t : CycleTimer) : Option Nat := t.plan.bind (·.position)

/-- The plan calls for a conversion whose phase is still to come (R79). A called phase that can no longer be taken, because it was passed at an adoption (R37) or the CT holds no mark (R38), counts as none (log 32). -/
def CycleTimer.phaseToCome (t : CycleTimer) : Bool :=
  match t.plan.bind PhasePlan.called with
  | some q => t.mark.isSome && !t.phaseTaken && decide (t.nextPhase ≤ q)
  | none => false

/-! ### Frame assembly (R48) -/

/-- The drained condition (R79, R136, R152), judged after the take. -/
def State.drained (s : State) : Bool := s.rt.queue.isEmpty && !s.converting && !s.ct.phaseToCome

/-- The station takes part in the gather and has not acknowledged (R136). -/
def Image.awaitsAck (m : Image) (i : StationId) : Bool :=
  match m.gather with
  | some g => IdSet.has g.required i && !IdSet.has g.acked i
  | none => false

/-- R136: whether a HALT_ACK is pending after the judgment. -/
def State.haltAckAfter (c : StationConfig) (m : Image) (s : State) : Bool :=
  m.awaitsAck c.id && (s.cb.haltAck || (decide (s.ct.plan.map (·.type) = some .drain) && s.drained))

/-- R79: whether a LEAVE is pending after the judgment. -/
def State.leaveAfter (s : State) : Bool := s.cb.leave || (s.sc.departing && s.drained)

/-- R114: the station's own earlier request is still queued or active. -/
def Image.holdsBack (m : Image) (i : StationId) : Bool := (m.ownRequest i).isSome

/-- R48 step 5: the pending items in the fixed order, a held-back PRIORITY_REQ left out. -/
def ItemBuffer.itemsToSend (b : ItemBuffer) (held : Bool) : List Item :=
  (if b.haltAck then [.haltAck] else []) ++ (if b.resumeReq then [.resumeReq] else []) ++
    (if b.haltReq then [.haltReq] else []) ++
    (match b.request with
      | some (cause, total) => if held then [] else [.priorityReq cause total b.serial]
      | none => []) ++
    (if b.leave then [.leave] else [])

/-- The summary that a BEAT carries by R9: the cycle-start copy, while SYNCED and with summary-seen clear. -/
def State.summaryToSend (s : State) : Option Image :=
  if s.iu.certainty = some .synced ∧ s.ct.summarySeen = false then s.iu.copy else none

/-- The BEAT of the station in its state, with the items its assembly took (R48, R49). -/
def State.beatFrame (m : Image) (taken : List Item) (s : State) : OwnFrame :=
  .beat (s.iu.certainty != some .synced) m.epoch m.cycle (Fin.ofNat 16 (s.ct.position.getD 0))
    (if s.iu.certainty = some .synced then taken else []) taken s.summaryToSend

/-- The pending set after the drain judgment of an assembly. -/
def State.judged (c : StationConfig) (m : Image) (s : State) : State :=
  s.setCb { s.cb with haltAck := s.haltAckAfter c m, leave := s.leaveAfter, reposted := false }

/-- Steps 3 to 6 of R48 with the header: records taken, drain judged, items taken, the transmitter ARMED. -/
def State.assembleBeat (c : StationConfig) (now : Instant) (s : State) : State :=
  match s.iu.image with
  | some m =>
    if s.ti.tx = .idle ∨ s.ti.tx = .armed then
      let s := (s.setRt s.rt.returned.pack).judged c m
      let taken := if s.iu.certainty = some .synced then s.cb.itemsToSend (m.holdsBack c.id) else []
      s.setTi { s.ti with tx := .armed, frame := some (s.beatFrame m taken), startGuard := some (now + guardOf c) }
    else s
  | none => s

/-! ### Slots and the join window (R24, R29, R67) -/

/-- A slot begins: the silence timer starts, unless a frame is in progress, and the own slot brings the assembly (R24). -/
def State.slotBegins (c : StationConfig) (now : Instant) (s : State) : State :=
  let s := s.setCt { s.ct with
    state := .slots, silence := if s.ti.receiving.isSome then none else some (now + silenceOf c) }
  if s.sc.state = .member ∧ s.ct.position = some s.ct.pointer then s.assembleBeat c now else s

/-- The first of R67's conditions that fails; none when all five hold. -/
def State.joinHoldReason (c : StationConfig) (m : Image) (s : State) : Option JoinHold :=
  if s.sc.joiningWanted = false then some .notWanted
  else if s.sc.holdoff.isSome then some .holdoff
  else if s.ct.summarySeen = false then some .noSummary
  else if m.lists c.id then some .idListed
  else if 16 ≤ m.roster.length then some .full
  else none

/-- R67, R68, R50: the judgment at the window's opening. -/
def State.judgeJoin (c : StationConfig) (now : Instant) (s : State) : State :=
  match s.iu.image with
  | some m =>
    match s.joinHoldReason c m with
    | some reason => s.setSc { s.sc with joinHold := reason }
    | none =>
      if m.digest = c.digest then
        (s.setSc { s.sc with joinHold := .ready }).setTi
          { s.ti with tx := .armed, frame := some (.join c.digest), startGuard := some (now + guardOf c) }
      else s.enterFault .planMismatch
  | none => s

/-- The join window opens (R29). -/
def State.windowOpens (c : StationConfig) (now : Instant) (s : State) : State :=
  let s := s.setCt { s.ct with state := .window, silence := none, window := some (now + silenceOf c) }
  if s.sc.state = .listen then s.judgeJoin c now else s

/-- The pointer takes a value: the next slot begins, or the join window opens (R24, R29). -/
def State.movePointer (c : StationConfig) (now : Instant) (p : Nat) (s : State) : State :=
  let s := s.setCt { s.ct with pointer := p }
  if p < s.ct.members then s.slotBegins c now else s.windowOpens c now

/-! ### Openings (R21) -/

/-- The CT as an opening sets it, before slot 0 begins. -/
def CycleTimer.opened (c : StationConfig) (departing : Bool) (now : Instant) (byFrame : Bool) (m : Image) (t : CycleTimer) :
    CycleTimer :=
  { t with
    state := .slots, mark := some { instant := now, provisional := !byFrame }, nextOpening := some (now + periodOf c),
    pointer := 0, silence := none, window := none, nextPhase := 0, phaseTaken := false, heard := 0, summarySeen := false,
    plan := some (planFor c departing m) }

/-- A cycle opens (R21); at a heard frame start the mark is fixed at once. -/
def State.openCycle (c : StationConfig) (now : Instant) (byFrame : Bool) (s : State) : State :=
  match s.iu.image with
  | some m => (s.setCt (s.ct.opened c s.sc.departing now byFrame m)).slotBegins c now
  | none => s

/-! ### Timing from a summary (R37, R38) -/

/-- The position of a summary's sender in its roster; a free value within the roster where it is not listed there (log 14). -/
def State.senderPosition (m : Image) (sender : StationId) (s : State) : Nat :=
  (m.position sender).getD (Config.unlistedSenderPosition s.free % m.roster.length)

/-- A free value was drawn by `senderPosition`. -/
def State.senderPositionDrawn (m : Image) (sender : StationId) (s : State) : State :=
  if (m.position sender).isSome then s else s.setFree (s.free + 1)

/-- How many phases of N have their instant behind them (log 21), every instant reckoned from the mark as it stands now: a phase without a signal that was reached under the provisional mark may lie ahead again (log 33). -/
def phasesPassed (c : StationConfig) (mark : Option Mark) (members : Nat) (now : Instant) : Nat :=
  match mark with
  | some k => (List.range members).countP (fun p => decide (phaseInstant c k.instant members p < now))
  | none => members

/-- R37, R94: N, own position, type and plan from the adopted image, the pointer after the sender, summary-seen set. The next phase is found anew from the mark (log 33). -/
def State.adoptTiming (c : StationConfig) (now : Instant) (closing suppressed : Bool) (sender : StationId) (m : Image)
    (s : State) : State :=
  (s.setCt { s.ct with
    plan := some (planFor c suppressed m)
    pointer := if closing then m.roster.length else s.senderPosition m sender + 1
    nextPhase := phasesPassed c s.ct.mark m.roster.length now
    summarySeen := true }).senderPositionDrawn m sender

/-- R38: new timing, with no mark and the heard set up to the sender. -/
def State.takeUpTiming (c : StationConfig) (closing suppressed : Bool) (sender : StationId) (m : Image) (s : State) : State :=
  (s.setCt { s.ct with
    state := if closing then .window else .slots
    mark := none
    nextOpening := none
    pointer := if closing then m.roster.length else s.senderPosition m sender + 1
    silence := none
    window := none
    nextPhase := m.roster.length
    phaseTaken := false
    heard := IdSet.ofList (m.ids.take (s.senderPosition m sender + 1))
    summarySeen := true
    plan := some (planFor c suppressed m) }).senderPositionDrawn m sender

/-! ### The cycle end (R32) -/

/-- The CT's part of the cycle end (R23, R32): the next opening, at once when the cycle overran. -/
def State.timerCycleEnd (c : StationConfig) (now : Instant) (s : State) : State :=
  match s.ct.mark with
  | some k =>
    if k.instant + periodOf c ≤ now then s.openCycle c now false
    else s.setCt { s.ct with
      state := .interval, silence := none, window := none, nextOpening := some (k.instant + periodOf c) }
  | none => s.setCt { s.ct with state := .interval, silence := none, window := none, nextOpening := none }

/-- A failed join attempt (R75, R76): IDLE when departing, FAULT at the eighth, LISTEN otherwise. -/
def State.failAttempt (c : StationConfig) (now : Instant) (s : State) : State :=
  if s.sc.departing then s.enterIdle
  else if 8 ≤ s.sc.attempts + 1 then (s.setSc { s.sc with attempts := s.sc.attempts + 1 }).enterFault .joinFailed
  else s.setSc { s.sc with
    state := .listen, attempts := s.sc.attempts + 1, founding := some (now + foundingWait c) }

/-- LISTEN with its image discarded (R66): CT UNTIMED, the founding timer running on. -/
def State.dropTracked (s : State) : State :=
  if s.sc.state = .listen then (s.setIu .empty).setCt { CycleTimer.stopped with state := .untimed } else s

/-- The cycle end at a station that holds a tracked image: `emptied` says that its removals leave no entry, whatever JOIN is admitted after them (R66, R74, R75). -/
def State.trackedCycleEnd (c : StationConfig) (now : Instant) (emptied : Bool) (m' : Image) (s : State) : State :=
  if emptied then
    (if s.sc.state = .joining then s.failAttempt c now else s).dropTracked
  else
    let s := if s.sc.state = .joining ∧ m'.lists c.id = false then s.failAttempt c now else s
    if s.receiverOn then s.timerCycleEnd c now else s

/-- R80: the own LEAVE removed the own entry. -/
def State.leftByLeave (s : State) : State :=
  let s := s.leaveMember
  ((s.setSc { s.sc with removal := some .left }).raise .removed).enterIdle

/-- R82, R84: the missed-slot rule removed the own entry. -/
def State.evicted (c : StationConfig) (now : Instant) (s : State) : State :=
  let s := s.leaveMember
  ((s.setSc { s.sc with removal := some .evicted, holdoff := some (now + holdoffTime c) }).raise .removed).listenUntimed c now

/-- R140: the halt part of the member's image changed at a cycle end. -/
def State.reportHalt (change : HaltChange) (s : State) : State :=
  match change with
  | .none => s
  | .complete => (s.setHalt { outcome := .complete, unacked := 0 }).raise .halted
  | .incomplete unacked => (s.setHalt { outcome := .incomplete, unacked }).raise .halted
  | .resumed => (s.setHalt .empty).raise .resumed

/-- R173: the epoch of the member's image changed. -/
def State.reportEpoch (before after : Word16) (s : State) : State := if before = after then s else s.raise .roster

/-- R15: the own position is the lowest among the members heard and itself, in the roster of the ending cycle. -/
def Image.lowestHeard (m : Image) (heard : IdSet) (own : StationId) : Bool :=
  m.ids.all (fun i => !IdSet.has heard i || decide (own ≤ i))

/-- R15: certainty after the cycle end. -/
def affirmed (m : Image) (own : StationId) (heard : IdSet) (summarySeen : Bool) (before : Option Certainty) : Option Certainty :=
  if before = some .doubtful ∧ summarySeen = false ∧ m.lowestHeard heard own = true then some .synced else before

/-- The cycle end at a member whose entry stays (R15, R6, R140, R173). -/
def State.staysMember (c : StationConfig) (now : Instant) (m after : Image) (change : HaltChange) (s : State) : State :=
  let certainty := affirmed m c.id s.ct.heard s.ct.summarySeen s.iu.certainty
  let s := s.setIu { image := some after, copy := some after, certainty, marks := .empty }
  ((s.reportEpoch m.epoch after.epoch).reportHalt change).timerCycleEnd c now

/-- R72: a member counts a refused join. -/
def State.countRefusedJoin (refused : Bool) (s : State) : State :=
  if refused then s.setSc { s.sc with refusedJoins := saturate255 s.sc.refusedJoins } else s

/-- The cycle end at a member (R70, R80, R82). -/
def State.memberCycleEnd (c : StationConfig) (now : Instant) (m m' : Image) (s : State) : State :=
  let k := s.iu.marks
  let heard := s.ct.heard
  let s := s.countRefusedJoin (m.refusesJoin k heard)
  if m'.lists c.id then s.staysMember c now m m' (m.haltChange k heard)
  else if IdSet.has k.leavers c.id then s.leftByLeave
  else s.evicted c now

/-- The cycle end (R32): the delivery half ages, every part of the image changes, and the station and its CT follow. -/
def State.cycleEnd (c : StationConfig) (now : Instant) (s : State) : State :=
  match s.iu.image with
  | some m =>
    let m' := m.cycleEnd s.iu.marks s.ct.heard s.ct.plan c.digest c.plan.length
    let emptied := m.emptiedBy s.iu.marks s.ct.heard
    let s := s.ageHalf c
    if s.sc.state = .member then s.memberCycleEnd c now m m'
    else (s.setIu { s.iu with image := some m', marks := .empty }).trackedCycleEnd c now emptied m'
  | none => s

/-! ### The commands of the cycle timer -/

/-- An operation of a station that holds a configuration; without one nothing runs (R187). -/
def State.configured (s : State) (f : StationConfig → State) : State :=
  match s.cfg with
  | some c => f c
  | none => s

/-- SLOT_PASSES: the silence timer expires (R25). -/
def execSlotPasses (s : State) : Host.Outcome State Fault Refusal :=
  .next (s.configured fun c =>
    match s.ct.state, s.ct.silence with
    | .slots, some expiry => s.movePointer c expiry (s.ct.pointer + 1)
    | _, _ => s)

/-- JOIN_WINDOW_TIMER_EXPIRY: the window closes, and this is the cycle end (R31). -/
def execJoinWindowTimerExpiry (s : State) : Host.Outcome State Fault Refusal :=
  .next (s.configured fun c =>
    match s.ct.state, s.ct.window with
    | .window, some expiry => s.cycleEnd c expiry
    | _, _ => s)

/-- CYCLE_OPENING: the next-opening instant is reached in INTERVAL (R21). -/
def execCycleOpening (s : State) : Host.Outcome State Fault Refusal :=
  .next (s.configured fun c =>
    match s.ct.state, s.ct.nextOpening with
    | .interval, some opening => s.openCycle c opening false
    | _, _ => s)

end Sys2Proof.Machine
end

