-- ==== Sys2Proof/Machine/Frames.lean ====
section
/-! DEFINITION. Trunk frames (R39 to R57) and what the image unit does with the summaries and items they carry (R7 to R19); the commands of the trunk interface. -/

namespace Sys2Proof.Machine

/-! ### The own frame -/

/-- The BEAT in the transmitter as it goes onto the line: the records in flight stand in the record transport. -/
def State.ownBeat (c : StationConfig) (s : State) : Option Beat :=
  match s.ti.frame with
  | some (.beat doubt epoch cycle position items _ summary) =>
    some { sender := c.id, doubt, epoch, cycle, position, items, records := s.rt.inFlight, summary }
  | some (.join _) | none => none

/-- The bytes of the frame in the transmitter, CRC included. -/
def State.ownBytes (c : StationConfig) (s : State) : Option (List Byte) :=
  match s.ti.frame with
  | some (.join digest) => some (withCrc (joinContent c.id digest))
  | some (.beat _ _ _ _ _ _ _) | none => (s.ownBeat c).map (fun b => withCrc (beatContent b))

/-- The levels that the station's frame puts on the line (R39, R40). -/
def State.sentLine (c : StationConfig) (s : State) : Option (List Bool) := (s.ownBytes c).map lineOf

/-- R47: the frame that ends is the own one, every bit read back as sent (log 11). -/
def State.readbackMatched (c : StationConfig) (line : List Bool) (s : State) : Bool :=
  s.frameInFlight && s.sentLine c == some line

/-- A MEMBER station becomes DOUBTFUL (R13). -/
def State.goDoubtful (s : State) : State :=
  if s.sc.state = .member then s.setIu { s.iu with certainty := some .doubtful } else s

/-- The frame is given up: its records return to the queue head and the transmitter is IDLE (R44, R45, R49). -/
def State.giveUpFrame (s : State) : State := (s.setTi s.ti.noFrame).setRt s.rt.returned

def OwnFrame.isBeat : OwnFrame → Bool
  | .beat _ _ _ _ _ _ _ => true
  | .join _ => false

/-- The frame in the transmitter is a BEAT. -/
def State.holdsBeat (s : State) : Bool := (s.ti.frame.map OwnFrame.isBeat).getD false

/-- R50: a JOIN still ARMED at a frame end is abandoned. -/
def State.abandonArmedJoin (s : State) : State :=
  if s.ti.tx = .armed ∧ s.holdsBeat = false then s.setTi s.ti.noFrame else s

/-- R49: an ARMED BEAT is brought up to date at a frame end, or abandoned. -/
def State.refreshArmed (s : State) : State :=
  match s.ti.tx, s.ti.frame, s.iu.image with
  | .armed, some (.beat _ _ _ _ _ taken _), some m =>
    if s.sc.state = .member ∧ s.ct.state = .slots ∧ s.ct.position = some s.ct.pointer then
      s.setTi { s.ti with frame := some (s.beatFrame m taken) }
    else s.giveUpFrame
  | .armed, some (.beat _ _ _ _ _ _ _), none => s.giveUpFrame
  | _, _, _ => s

/-- The LEAVE of R62 on the station's state; ALREADY's rows change nothing. -/
def State.takeLeave (s : State) : State :=
  match s.sc.state with
  | .listen => (s.setSc { s.sc with joiningWanted := false }).enterIdle
  | .joining | .member => s.setSc { s.sc with departing := true, joiningWanted := false, deferredLeave := false }
  | .loading | .idle | .fault => s

/-- R62: a deferred LEAVE takes effect once the JOIN is settled. -/
def State.takeDeferredLeave (s : State) : State :=
  if s.sc.deferredLeave ∧ s.ti.tx ≠ .aborting then s.takeLeave else s

/-! ### Items (R7, R124, R126, R140) -/

/-- What a MEMBER station reports of an item's effect. -/
def State.reportItem (own sender : StationId) (effect : ItemEffect) (s : State) : State :=
  match effect with
  | .nothing => s
  | .refused reason serial => if sender = own then s.refuse reason serial else s
  | .gatherStarted dropped =>
    let s := s.raise .draining
    match dropped.find? (·.requester = own) with
    | some r => s.refuse .halting r.serial
    | none => s

/-- One item of a CLEAN BEAT. -/
def State.applyItem (own sender : StationId) (s : State) (item : Item) : State :=
  match s.iu.image with
  | some m =>
    let arrived := m.arrive s.iu.marks sender item
    let s := s.setIu { s.iu with image := some arrived.1, marks := arrived.2.1 }
    if s.sc.state = .member then s.reportItem own sender arrived.2.2 else s
  | none => s

/-- The items of a frame, in frame order (R7). -/
def State.applyItems (own sender : StationId) (items : List Item) (s : State) : State :=
  items.foldl (State.applyItem own sender) s

/-! ### Summaries (R4, R9 to R12, R17, R18) -/

/-- What the summary step of R54 did. -/
inductive SummaryOutcome where
  /-- no summary, or one that is ignored -/
  | ignored
  /-- equal to the cycle-start copy (R10) -/
  | confirmed
  /-- adopted, or taken as a tracked image; the CT has its timing -/
  | taken
  /-- from a listed sender with another plan digest (R4) -/
  | digestDiffers
  deriving DecidableEq, Repr

/-- The first place where two id lists differ holds a lower id in the first one (R18, steps 2 and 3). -/
def lowerIds : List StationId → List StationId → Bool
  | x :: xs, y :: ys => if x = y then lowerIds xs ys else decide (x < y)
  | _, _ => false

/-- R18: the summary's roster is the larger one. -/
def foreignLarger (own foreign : List StationId) : Bool :=
  decide (own.length < foreign.length) || (decide (own.length = foreign.length) && lowerIds foreign own)

/-- R127: the station's own request is gone from a halting group's summary. -/
def State.reportLostRequest (own : StationId) (copy summary : Image) (s : State) : State :=
  match copy.ownRequest own with
  | some r =>
    if (summary.ownRequest own).isNone ∧ (summary.gather.isSome ∨ summary.run = .halted) then s.refuse .halting r.serial
    else s
  | none => s

/-- R140: the halt part of the member's image changed by an adoption. -/
def State.reportHaltAdopted (copy summary : Image) (s : State) : State :=
  let s := if copy.gather.isNone ∧ summary.gather.isSome then s.raise .draining else s
  match copy.run, summary.run with
  | .running, .halted => (s.setHalt { outcome := .adopted, unacked := 0 }).raise .halted
  | .halted, .running => (s.setHalt .empty).raise .resumed
  | .running, .running | .halted, .halted => s

/-- R16, R127: what an adoption by a MEMBER reports whether or not the summary lists it. -/
def State.reportDiverged (own : StationId) (copy : Option Image) (summary : Image) (s : State) : State :=
  match copy with
  | some k => if k = summary then s else (s.raise .diverged).reportLostRequest own k summary
  | none => s.raise .diverged

/-- R140, R173: what an adoption reports at a station that stays MEMBER. -/
def State.reportAdopted (copy : Option Image) (summary : Image) (s : State) : State :=
  match copy with
  | some k => (s.reportEpoch k.epoch summary.epoch).reportHaltAdopted k summary
  | none => s

/-- The plan of the cycle in progress suppresses conversions (R78, log 20). -/
def CycleTimer.suppressed (t : CycleTimer) : Bool := (t.plan.map (·.suppressed)).getD false

/-- R10, R11: a member adopts a summary that lists it. -/
def State.adopt (c : StationConfig) (now : Instant) (closing : Bool) (sender : StationId) (summary : Image) (s : State) : State :=
  let copy := s.iu.copy
  let s := s.setIu { image := some summary, copy := some summary, certainty := some .synced, marks := .empty }
  let s := s.adoptTiming c now closing s.ct.suppressed sender summary
  (s.reportDiverged c.id copy summary).reportAdopted copy summary

/-- The station enters LISTEN holding a summary as its tracked image (R83, R18). -/
def State.listenTracking (c : StationConfig) (now : Instant) (summary : Image) (s : State) : State :=
  (s.setIu { ImageUnit.empty with image := some summary }).setSc
    { s.sc with state := .listen, founding := some (now + foundingWait c) }

/-- R83: a member adopts a summary that does not list it. -/
def State.evictedByAdoption (c : StationConfig) (now : Instant) (closing : Bool) (sender : StationId) (summary : Image)
    (s : State) : State :=
  let s := (s.reportDiverged c.id s.iu.copy summary).leaveMember
  let s := (s.setSc { s.sc with removal := some .evicted, holdoff := some (now + holdoffTime c) }).raise .removed
  (s.listenTracking c now summary).adoptTiming c now closing false sender summary

/-- R18: the station yields to a larger foreign group. -/
def State.yieldTo (c : StationConfig) (now : Instant) (closing : Bool) (sender : StationId) (summary : Image) (s : State) : State :=
  let s := s.leaveMember
  let s := ((s.setSc { s.sc with removal := some .yielded }).raise .removed).raise .yielded
  (s.listenTracking c now summary).takeUpTiming c closing false sender summary

/-- The timing of a LISTEN or JOINING station that takes a summary: R37 from a sender listed in the tracked image it held, R38 otherwise. -/
def State.trackTiming (c : StationConfig) (now : Instant) (closing suppressed known : Bool) (sender : StationId) (summary : Image)
    (s : State) : State :=
  if known ∧ s.ct.state ≠ .untimed then s.adoptTiming c now closing suppressed sender summary
  else s.takeUpTiming c closing suppressed sender summary

/-- R12: the summary becomes the tracked image. -/
def State.trackSummary (c : StationConfig) (now : Instant) (closing known : Bool) (sender : StationId) (summary : Image)
    (s : State) : State :=
  (s.setIu { ImageUnit.empty with image := some summary }).trackTiming c now closing false known sender summary

/-- R75, R106, R140: the summary confirms the join. A gather that the summary holds raises no DRAINING: JOINED alone reports the entry (log 34). -/
def State.confirmJoin (c : StationConfig) (now : Instant) (closing known : Bool) (sender : StationId) (summary : Image)
    (s : State) : State :=
  let s := s.setIu { image := some summary, copy := some summary, certainty := some .synced, marks := .empty }
  let s := (s.setSc { s.sc with state := .member, attempts := 0 }).raise .joined
  let s := (s.setRm 0).setHalt { outcome := if summary.run = .halted then .adopted else .none, unacked := 0 }
  s.trackTiming c now closing s.sc.departing known sender summary

/-- The summary step at a member (R4, R10, R11, R17, R18). -/
def State.memberSummary (c : StationConfig) (now : Instant) (closing : Bool) (sender : StationId) (summary m : Image)
    (s : State) : State × SummaryOutcome :=
  if m.lists sender then
    if summary.digest ≠ c.digest then (s.goDoubtful, .digestDiffers)
    else if s.iu.certainty = some .synced ∧ s.iu.copy = some summary then
      (s.setCt { s.ct with summarySeen := true }, .confirmed)
    else if summary.lists c.id then (s.adopt c now closing sender summary, .taken)
    else (s.evictedByAdoption c now closing sender summary, .taken)
  else if summary.lists c.id then
    if s.iu.certainty = some .doubtful ∧ summary.digest = c.digest ∧ summary.lists sender = true then
      (s.adopt c now closing sender summary, .taken)
    else (s, .ignored)
  else if foreignLarger m.ids summary.ids then (s.yieldTo c now closing sender summary, .taken)
  else (s, .ignored)

/-- Whether the image held lists a station. -/
def State.listsSender (sender : StationId) (s : State) : Bool := (s.iu.image.map (·.lists sender)).getD false

/-- The summary step of R54. -/
def State.takeSummary (c : StationConfig) (now : Instant) (closing : Bool) (sender : StationId) (summary : Image) (s : State) :
    State × SummaryOutcome :=
  match s.sc.state, s.iu.image with
  | .member, some m => s.memberSummary c now closing sender summary m
  | .listen, _ => (s.trackSummary c now closing (s.listsSender sender) sender summary, .taken)
  | .joining, _ =>
    if summary.lists c.id ∧ summary.digest = c.digest then
      (s.confirmJoin c now closing (s.listsSender sender) sender summary, .taken)
    else ((s.trackSummary c now closing (s.listsSender sender) sender summary).failAttempt c now, .taken)
  | _, _ => (s, .ignored)

/-! ### Classes (R51 to R57) -/

/-- What a frame end leaves to the cycle timer (R26). -/
inductive Timing where
  /-- the silence timer is restarted for the current slot -/
  | restart
  /-- a clean BEAT of a listed sender at this position -/
  | listed (position : Nat)
  /-- the pointer was set by R37 or R38 -/
  | set
  deriving DecidableEq, Repr

/-- The state after a frame was classified, what is left to the CT, and the records handed on. -/
structure Handled where
  state : State
  timing : Timing
  origin : StationId
  records : List Record
  deriving DecidableEq, Repr

def State.countInconsistent (s : State) : State := s.setTi { s.ti with inconsistent := saturate255 s.ti.inconsistent }

/-- R52. -/
def State.receiveError (s : State) : State :=
  ((s.setTi { s.ti with errors := saturate255 s.ti.errors }).raise .rxError).goDoubtful

/-- The sender enters the heard set (R27). -/
def State.hear (i : StationId) (s : State) : State := s.setCt { s.ct with heard := IdSet.add s.ct.heard i }

/-- R26, R27 for a structurally INCONSISTENT BEAT (R53). -/
def State.structureFailed (b : Beat) (s : State) : Handled :=
  let s := s.countInconsistent
  match s.iu.image.bind (·.position b.sender) with
  | some p => { state := s.hear b.sender, timing := .listed p, origin := b.sender, records := [] }
  | none => { state := s, timing := .restart, origin := b.sender, records := [] }

/-- The stated position is earlier than the slot pointer; a BEAT that ends while the join window is open always is, whatever position it states (R55). -/
def CycleTimer.positionPassed (t : CycleTimer) (b : Beat) : Bool := t.state == .window || decide (b.position.val < t.pointer)

/-- The checks of R55 that make a MEMBER DOUBTFUL; the pointer check is not made for a summary confirmed or taken at this frame end (log 15). The epoch and the cycle number are checked then too, as R13 and R55 say, although R10 says that such a frame never makes a SYNCED receiver DOUBTFUL by its header alone (log 41). -/
def headerDoubt (m : Image) (t : CycleTimer) (summaryTaken : Bool) (b : Beat) : Bool :=
  b.epoch != m.epoch || b.cycle != m.cycle || (!summaryTaken && t.positionPassed b)

/-- A BEAT of a listed sender after R54: the header check, and the items of a CLEAN one (R55). A summary-carrying one that states another epoch or cycle number than the image as it stands after the summary makes a MEMBER DOUBTFUL, where R13 and R55 disagree with a sentence of R10 (log 41). -/
def State.listedBeat (c : StationConfig) (m : Image) (p : Nat) (outcome : SummaryOutcome) (b : Beat) (s : State) : State :=
  let doubt := headerDoubt m s.ct (outcome == .confirmed || outcome == .taken) b
  if doubt || outcome == .digestDiffers then s.countInconsistent.goDoubtful
  else if b.position.val ≠ p then s.countInconsistent
  else s.applyItems c.id b.sender b.items

/-- A clean BEAT of sound structure (R54, R55). Without an image after the summary step the frame is unplaced: it changes no count and hands nothing on. R54 says so of a LISTEN station without an image; that it holds too where the summary took a JOINING station to IDLE or FAULT is the model's choice (log 38). -/
def State.soundBeat (c : StationConfig) (now : Instant) (closing : Bool) (b : Beat) (s : State) : Handled :=
  let step := match b.summary with
    | some summary => s.takeSummary c now closing b.sender summary
    | none => (s, .ignored)
  let unlistedTiming := if step.2 = .taken then .set else .restart
  match step.1.iu.image with
  | some m =>
    match m.position b.sender with
    | some p =>
      { state := (step.1.listedBeat c m p step.2 b).hear b.sender, timing := if step.2 = .taken then .set else .listed p,
        origin := b.sender, records := b.records }
    | none =>
      { state := (step.1.setTi { step.1.ti with foreign := saturate255 step.1.ti.foreign }).raise .foreign,
        timing := unlistedTiming, origin := b.sender, records := [] }
  | none => { state := step.1, timing := unlistedTiming, origin := b.sender, records := [] }

/-- A clean JOIN (R56). -/
def State.joinHeard (sender : StationId) (digest : Digest) (inWindow : Bool) (s : State) : Handled :=
  if inWindow then
    { state := s.setIu { s.iu with marks := { s.iu.marks with join := some (sender, digest) } }, timing := .restart,
      origin := sender, records := [] }
  else { state := s.countInconsistent, timing := .restart, origin := sender, records := [] }

/-- The items that the frame carried leave the pending set, those posted in their place stay (R47, R115). -/
def ItemBuffer.sent (b : ItemBuffer) (items : List Item) : ItemBuffer :=
  let request := items.any (fun i => i.code == 4)
  { b with
    haltAck := b.haltAck && !items.contains .haltAck
    resumeReq := b.resumeReq && (b.reposted || !items.contains .resumeReq)
    haltReq := b.haltReq && (b.reposted || !items.contains .haltReq)
    request := if request then none else b.request
    leave := b.leave && !items.contains .leave
    serial := if request then b.serial + 1 else b.serial }

/-- The own frame ended with a matching readback: the transmitter and the clash-suspect flag (R47, R46). -/
def TrunkInterface.matched (t : TrunkInterface) : TrunkInterface := { t.noFrame with clashSuspect := false }

/-- The own BEAT ended with a matching readback (R47, R9, R115). -/
def State.ownBeatEnd (c : StationConfig) (b : Beat) (s : State) : Handled :=
  let s := ((s.setTi s.ti.matched).setCb (s.cb.sent b.items)).setRt { s.rt with inFlight := [] }
  let s := (s.setCt { s.ct with summarySeen := s.ct.summarySeen || b.summary.isSome }).hear c.id
  { state := s.applyItems c.id c.id b.items
    timing := match s.iu.image.bind (·.position c.id) with
      | some p => .listed p
      | none => .restart
    origin := c.id
    records := b.records }

/-- The own JOIN ended with a matching readback (R47, R69, R74). A LISTEN station that sent one holds a tracked image (R67); one that holds none stays in LISTEN (log 3). -/
def State.ownJoinEnd (c : StationConfig) (digest : Digest) (s : State) : Handled :=
  let s := s.setTi s.ti.matched
  let s := if s.sc.state = .listen ∧ s.iu.image.isSome then
      (s.setSc { s.sc with state := .joining, founding := none }).setIu
        { s.iu with marks := { s.iu.marks with join := some (c.id, digest) } }
    else s
  { state := s, timing := .restart, origin := c.id, records := [] }

/-- The own frame is classified (R47). -/
def State.ownFrameEnd (c : StationConfig) (s : State) : Handled :=
  match s.ti.frame with
  | some (.join digest) => s.ownJoinEnd c digest
  | some (.beat _ _ _ _ _ _ _) | none =>
    match s.ownBeat c with
    | some b => s.ownBeatEnd c b
    | none => { state := s, timing := .restart, origin := c.id, records := [] }

/-- R57: another station's clean frame carries the own id, while the transmitter is IDLE or ARMED. -/
def State.idClash (c : StationConfig) (sender : StationId) (s : State) : Bool :=
  decide (sender = c.id) && (s.ti.tx == .idle || s.ti.tx == .armed)

/-- FAULT(ID_CLASH) at a frame end (R57): the frame is taken in no class (log 18). -/
def State.clashed (c : StationConfig) (s : State) : Handled :=
  { state := s.enterFault .idClash, timing := .restart, origin := c.id, records := [] }

/-- A received frame, not the station's own, is classified (R51 to R57). -/
def State.classify (c : StationConfig) (now : Instant) (closing inWindow : Bool) (line : List Bool) (s : State) : Handled :=
  match receiveLine line with
  | .cutShort | .whole _ false => { state := s.receiveError, timing := .restart, origin := c.id, records := [] }
  | .whole (.join sender digest) true =>
    if s.idClash c sender then s.clashed c else s.joinHeard sender digest inWindow
  | .whole (.beat b inRange) true =>
    if s.idClash c b.sender then s.clashed c
    else if b.structureOk c inRange then s.soundBeat c now closing b
    else s.structureFailed b

/-- R26: the pointer moves or the silence timer restarts at the end of a frame heard in SLOTS; a frame that closes the window moves neither (R31). -/
def State.settle (c : StationConfig) (now : Instant) (closing : Bool) (timing : Timing) (s : State) : State :=
  if closing ∨ s.ct.state ≠ .slots then s
  else match timing with
    | .restart => s.setCt { s.ct with silence := some (now + silenceOf c) }
    | .listed p =>
      if s.ct.pointer ≤ p then s.movePointer c now (p + 1) else s.setCt { s.ct with silence := some (now + silenceOf c) }
    | .set => s.movePointer c now s.ct.pointer

/-- The close of the join window with the records of the frame that closed it: which comes first is open (R162, log 13); a station that goes to FAULT takes no record (R154, R85). That one whose cycle end comes first and takes it to IDLE still places the records, judged in the state in which the frame ended, is the model's choice (log 39). -/
def State.closeWindow (c : StationConfig) (now : Instant) (origin : StationId) (records : List Record) (s : State) : State :=
  if records.any (accepts c origin) ∧ (s.cycleEnd c now).sc.state ≠ .fault then
    let drawn := s.setFree (s.free + 1)
    if Config.recordsBeforeCycleEnd s.free then (drawn.handOver c origin records).cycleEnd c now
    else (drawn.cycleEnd c now).handOver c origin records
  else s.cycleEnd c now

/-- The end of what a frame end does: the cycle end if it closed the window, and the records (R31, R157). -/
def State.finish (c : StationConfig) (now : Instant) (closing : Bool) (origin : StationId) (records : List Record) (s : State) :
    State :=
  if closing ∧ s.ct.state = .window then s.closeWindow c now origin records else s.handOver c origin records

/-- R154: the records that the frame end hands on; none at a station that the frame end took to FAULT. -/
def State.judgedRecords (records : List Record) (s : State) : List Record := if s.receiverOn then records else []

/-- A frame reaches its end at a station whose receiver is inside it (log 12 gives the order). -/
def State.frameEnd (c : StationConfig) (now : Instant) (line : List Bool) (inWindow : Bool) (s : State) : State :=
  let closing := inWindow && s.ct.state == .window
  let matched := s.readbackMatched c line
  let s := (s.setTi { s.ti with receiving := none }).abandonArmedJoin
  let h := if matched then s.ownFrameEnd c else s.classify c now closing inWindow line
  let settled := (h.state.settle c now closing h.timing).refreshArmed
  settled.takeDeferredLeave.finish c now closing h.origin (settled.judgedRecords h.records)

/-! ### The commands of the trunk interface -/

/-- R22: the first frame start of a cycle fixes its mark and moves the next opening. -/
def CycleTimer.retimed (c : StationConfig) (now : Instant) (t : CycleTimer) : CycleTimer :=
  match t.mark with
  | some k =>
    if k.provisional then
      { t with mark := some { instant := now, provisional := false }, nextOpening := some (now + periodOf c) }
    else t
  | none => t

/-- R64: each frame start restarts the founding timer of a LISTEN station. -/
def State.restartFounding (c : StationConfig) (now : Instant) (s : State) : State :=
  if s.sc.state = .listen then s.setSc { s.sc with founding := some (now + foundingWait c) } else s

/-- The station drives the trunk pair: its own frame, or the abort mark (R39, R42, R45). In every other state it leaves the pair recessive (R188). -/
def State.drivesTrunk (s : State) : Bool := s.frameInFlight || s.ti.tx == .aborting

/-- FRAME_START: a frame start is heard (R39, R21, R22, R25, R29, R64). -/
def execFrameStart (now : Instant) (s : State) : Host.Outcome State Fault Refusal :=
  .next (s.configured fun c =>
    if s.receiverOn ∧ s.ti.receiving.isNone then
      let s := (s.setTi { s.ti with receiving := some (s.ct.state == .window) }).restartFounding c now
      match s.ct.state with
      | .interval => s.openCycle c now true
      | .slots => s.setCt { s.ct.retimed c now with silence := none }
      | .window => s.setCt { s.ct.retimed c now with window := none }
      | .stopped | .untimed => s
    else s)

/-- FRAME_END (R51). -/
def execFrameEnd (now : Instant) (line : List Bool) (s : State) : Host.Outcome State Fault Refusal :=
  .next (s.configured fun c =>
    match s.ti.receiving with
    | some inWindow => if s.receiverOn then s.frameEnd c now line inWindow else s
    | none => s)

/-- The own id enters the heard set when a MEMBER begins its frame (R28). -/
def State.hearSelf (c : StationConfig) (s : State) : State := if s.sc.state = .member then s.hear c.id else s

/-- FRAME_BEGIN: an ARMED transmitter begins on an idle line within its start guard (R43, R30). -/
def execFrameBegin (now : Instant) (s : State) : Host.Outcome State Fault Refusal :=
  .next (s.configured fun c =>
    match s.ti.tx, s.ti.startGuard with
    | .armed, some expiry =>
      if s.ti.receiving.isNone ∧ now ≤ expiry then
        (s.setTi { s.ti with tx := .arbitrating, startGuard := none }).hearSelf c
      else s
    | _, _ => s)

/-- ARBITRATION_LOSS (R44). -/
def execArbitrationLoss (s : State) : Host.Outcome State Fault Refusal :=
  .next (if s.ti.tx = .arbitrating then (if s.holdsBeat then s.giveUpFrame.goDoubtful else s.giveUpFrame) else s)

/-- READBACK_MISMATCH (R45, R46). -/
def execReadbackMismatch (sentRecessive : Bool) (s : State) : Host.Outcome State Fault Refusal :=
  .next (
    if s.frameInFlight then
      let aborting := s.setTi { s.ti with
        tx := .aborting
        clashSuspect := s.ti.clashSuspect || sentRecessive
        clashAfterAbort := s.ti.clashSuspect && sentRecessive }
      if s.holdsBeat then aborting.goDoubtful else aborting
    else s)

/-- ABORT_MARK_END (R45, R46, R62). -/
def execAbortMarkEnd (s : State) : Host.Outcome State Fault Refusal :=
  .next (
    if s.ti.tx = .aborting then
      if s.ti.clashAfterAbort then s.giveUpFrame.enterFault .idClash else s.giveUpFrame.takeDeferredLeave
    else s)

/-- START_GUARD_EXPIRY: the frame is abandoned (R43, R49, R50). -/
def execStartGuardExpiry (s : State) : Host.Outcome State Fault Refusal :=
  .next (if s.ti.tx = .armed then s.giveUpFrame else s)

end Sys2Proof.Machine
end

