-- ==== Sys2Proof/Machine/Loading.lean ====
section
/-! DEFINITION. Resets and the load of the configuration image (R177 to R187). -/

namespace Sys2Proof.Machine

/-- A reset (R177): every block takes its reset values; the level of RESETn is the outside's, the free counter and the queue are the model's. -/
def State.resetBy (cause : ResetCause) (hold : Hold) (resetnLow : Bool) (s : State) : State :=
  { State.reset with rc := { cause, hold, resetnLow }, free := s.free, pending := s.pending }

/-- LOADING starts: the hold ends and the bus clear begins, with the 50 ms limit (R177, R179). -/
def State.startLoading (now : Instant) (s : State) : State :=
  (s.setRc { s.rc with hold := .none }).setLd { Loader.afterReset with timer := some (now + loadLimit) }

/-- R187: the load fails. The byte count stays, the bytes are discarded. -/
def State.failLoad (reason : FaultReason) (s : State) : State :=
  (s.setLd { s.ld with phase := .failed, bytes := [], timer := none }).enterFault reason

/-- What the loader does on the I2C bus (R179). -/
inductive I2cAction where
  | clockPulses (count : Nat)
  | start
  | repeatedStart
  | stop
  | send (byte : Byte)
  /-- a byte from the memory, and whether the loader acknowledges it -/
  | receive (acknowledge : Bool)
  deriving DecidableEq, Repr

/-- The bus address of the configuration memory (R179). -/
def busAddress : BitVec 7 := 0b1010000#7

/-- The four address bytes in their order: bus address with the write direction, word address 0 high byte first, bus address with the read direction (R179). -/
def addressBytes : List Byte := [busAddress ++ 0#1, 0, 0, busAddress ++ 1#1]

/-- What the loader does on the bus up to the event that its phase waits for and with it (R179). A bus clear that leaves SDA low fails at its ninth pulse, before the stop. -/
def Loader.sends (l : Loader) : List I2cAction :=
  if l.timer.isNone then []
  else match l.phase with
    | .starting => [.clockPulses 9, .stop]
    | .addressing =>
      (if l.addressed = 0 then [.start] else if l.addressed = 3 then [.repeatedStart] else []) ++
        (addressBytes[l.addressed]?.map I2cAction.send).toList
    | .reading => if l.count + 1 < 72 then [.receive true] else [.receive false, .stop]
    | .checking | .done | .failed => []

/-- The station drives the I2C lines from the start of LOADING to the end of the transfer (R179). -/
def State.drivesI2C (s : State) : Bool := s.ld.timer.isSome

/-- R60: the state that the join mode names. -/
def State.leaveLoading (c : StationConfig) (now : Instant) (s : State) : State :=
  match c.joinMode with
  | .manual => s.setSc { s.sc with state := .idle, joiningWanted := false }
  | .auto => (s.setSc { s.sc with joiningWanted := true }).listenUntimed c now
  | .observe => (s.setSc { s.sc with joiningWanted := false }).listenUntimed c now

/-- R186: the fields are handed over, LOADED is set and the alert mask installed. The byte count stays at 72 (log 36). -/
def State.goodLoad (c : StationConfig) (now : Instant) (s : State) : State :=
  let s := ((s.setCfg (some c)).setLd { s.ld with phase := .done }).setCp { s.cp with mask := imageAlertMask s.ld.bytes }
  (s.raise .loaded).leaveLoading c now

/-- POWER_ON (R177). -/
def execPowerOn (s : State) : Host.Outcome State Fault Refusal :=
  .next (s.resetBy .powerOn .powerOnDelay s.rc.resetnLow)

/-- POWER_ON_DELAY_EXPIRY (R177); a RESETn that is low holds the station on (R180, log 8). -/
def execPowerOnDelayExpiry (now : Instant) (s : State) : Host.Outcome State Fault Refusal :=
  .next (
    if s.rc.hold = .powerOnDelay then
      if s.rc.resetnLow then s.setRc { s.rc with hold := .resetnLow } else s.startLoading now
    else s)

/-- RESETN_LOW (R177). -/
def execResetnLow (s : State) : Host.Outcome State Fault Refusal := .next (s.resetBy .pin .resetnLow true)

/-- RESETN_RISE (R177). -/
def execResetnRise (now : Instant) (s : State) : Host.Outcome State Fault Refusal :=
  let risen := s.setRc { s.rc with resetnLow := false }
  .next (if s.rc.hold = .resetnLow then risen.startLoading now else risen)

/-- BUS_CLEAR completes (R179, step 1). -/
def execBusClear (sdaLow : Bool) (s : State) : Host.Outcome State Fault Refusal :=
  .next (
    if s.ld.phase = .starting ∧ s.ld.timer.isSome then
      if sdaLow then s.failLoad .imageAbsent else s.setLd { s.ld with phase := .addressing }
    else s)

/-- ADDRESS_BYTE: one of the four address bytes and its acknowledge (R179, step 2). -/
def execAddressByte (acknowledged : Bool) (s : State) : Host.Outcome State Fault Refusal :=
  .next (
    if s.ld.phase = .addressing then
      if acknowledged then
        s.setLd { s.ld with
          addressed := s.ld.addressed + 1, phase := if 4 ≤ s.ld.addressed + 1 then .reading else .addressing }
      else s.failLoad .imageAbsent
    else s)

/-- IMAGE_BYTE: after the 72nd byte the stop condition is sent and the checks begin (R179, step 3). -/
def execImageByte (received : Byte) (s : State) : Host.Outcome State Fault Refusal :=
  .next (
    if s.ld.phase = .reading then
      s.setLd { s.ld with
        bytes := s.ld.bytes ++ [received]
        count := s.ld.count + 1
        phase := if 72 ≤ s.ld.count + 1 then .checking else .reading
        timer := if 72 ≤ s.ld.count + 1 then none else s.ld.timer }
    else s)

/-- LOAD_TIMEOUT: the transfer has not reached its stop condition in 50 ms (R179). -/
def execLoadTimeout (s : State) : Host.Outcome State Fault Refusal :=
  .next (if s.ld.timer.isSome then s.failLoad .imageAbsent else s)

/-- CHECKING completes (R181, R184, R186, R187). -/
def execChecking (now : Instant) (s : State) : Host.Outcome State Fault Refusal :=
  .next (
    if s.ld.phase = .checking then
      match checkImage s.ld.bytes with
      | .error reason => s.failLoad reason
      | .ok c => s.goodLoad c now
    else s)

end Sys2Proof.Machine
end

