-- ==== Sys2Proof/Machine/Port.lean ====
section
/-! DEFINITION. The collector port: its commands, their responses and the status word (R168 to R176, R191, 12.4), with the commands it passes on (R61, R62, R112, R131, R163 to R166). -/

namespace Sys2Proof.Machine

/-! ### Responses (R168, R169) -/

/-- Response codes (R169, 12.4). -/
inductive ResponseCode where
  | done | already | replaced | merged | wrongState | badArgument | empty | noneFilling | noneClosed | unknown
  deriving DecidableEq, Repr

/-- The byte of a response code (12.4). -/
def ResponseCode.byte : ResponseCode → Byte
  | .done => 0x00 | .already => 0x01 | .replaced => 0x02 | .merged => 0x03 | .wrongState => 0x04
  | .badArgument => 0x05 | .empty => 0x06 | .noneFilling => 0x07 | .noneClosed => 0x08 | .unknown => 0x09

/-- The port takes a command: RESETn is high and the select has had none yet (R168, log 28). It does so in the power-on hold and in LOADING too, by R168 and R178 against R188 (log 35). A reset ends the transaction, and the next command is taken without a release between (log 28). -/
def State.portTakes (s : State) : Bool := !s.rc.resetnLow && s.cp.response.isNone

/-- The response that the port holds until the select ends (R169). -/
def State.respond (code : ResponseCode) (more : List Byte) (s : State) : State :=
  s.setCp { s.cp with response := some (code.byte :: more) }

/-- MISO is driven while the port is giving a response and is released otherwise (R188, R191); while RESETn is low no response is driven (R168). -/
def State.drivesMiso (s : State) : Bool := s.cp.response.isSome && !s.rc.resetnLow

/-- Byte `n` of those clocked out after the command's last byte, from 0 on: the response's, and FFh after its end (R168, R191); none while MISO is released. -/
def State.misoByte (s : State) (n : Nat) : Option Byte :=
  if s.drivesMiso then some ((s.cp.response.getD []).getD n 0xFF) else none

/-- A command of the collector port: its effect and its response, or nothing when the port does not take it. -/
def State.portCommand (s : State) (effect : State) : State := if s.portTakes then effect else s

/-- A byte of which 12.4 names the bits of `named` alone; the others are free (log 17). -/
def partlyNamed (draw index : Nat) (named value : Byte) : Byte :=
  (value &&& named) ||| (Config.unnamedBits draw index &&& ~~~named)

/-- A number as a byte; FFh stands for none (12.4). -/
def orNone (value : Option Nat) : Byte :=
  match value with
  | some n => BitVec.ofNat 8 n
  | none => 0xFF

/-- Flags as a byte, bit 7 first. -/
def flagsByte (b7 b6 b5 b4 b3 b2 b1 b0 : Bool) : Byte := byteOf b7 b6 b5 b4 b3 b2 b1 b0

/-! ### Codes of the status word (12.4) -/

def StationState.code : StationState → Byte
  | .loading => 0 | .idle => 1 | .listen => 2 | .joining => 3 | .member => 4 | .fault => 5

def FaultReason.code : Option FaultReason → Byte
  | none => 0
  | some .imageAbsent => 1
  | some .imageCrc => 2
  | some .imageVersion => 3
  | some .imageRange => 4
  | some .planMismatch => 5
  | some .idClash => 6
  | some .joinFailed => 7

def JoinHold.code : JoinHold → Byte
  | .none => 0 | .notWanted => 1 | .holdoff => 2 | .noSummary => 3 | .idListed => 4 | .full => 5 | .ready => 6

def Removal.code : Option Removal → Byte
  | none => 0
  | some .left => 1
  | some .evicted => 2
  | some .yielded => 3

def LoadPhase.code : LoadPhase → Byte
  | .starting => 0 | .addressing => 1 | .reading => 2 | .checking => 3 | .done => 4 | .failed => 5

def CtState.code : CtState → Nat
  | .stopped => 0 | .untimed => 1 | .slots => 2 | .window => 3 | .interval => 4

def Certainty.code : Option Certainty → Nat
  | none => 0
  | some .synced => 1
  | some .doubtful => 2

def CycleType.code : Option CycleType → Byte
  | none => 0
  | some .regular => 1
  | some .priority => 2
  | some .drain => 3
  | some .halted => 4

def RefusalReason.code : RefusalReason → Byte
  | .halted => 1 | .halting => 2 | .full => 3

def RunState.code : Option RunState → Nat
  | none => 0
  | some .running => 1
  | some .halted => 2

def HaltOutcome.code : HaltOutcome → Nat
  | .none => 0 | .complete => 1 | .incomplete => 2 | .adopted => 3

def ResetCause.code : ResetCause → Nat
  | .powerOn => 1 | .pin => 2 | .command => 3

def Half.code : Half → Nat
  | .free => 0
  | .filling _ _ => 1
  | .closed _ _ _ => 2

def HalfId.code : Option HalfId → Nat
  | none => 0
  | some .h0 => 1
  | some .h1 => 2

def CloseCause.code : CloseCause → Nat
  | .full => 1 | .age => 2 | .command => 3

/-! ### The items of the status word (R170) -/

/-- Kind of the image held: 0 none, 1 tracked, 2 member's (R1). -/
def State.imageKind (s : State) : Nat :=
  if s.iu.image.isSome then (if s.sc.state = .member then 2 else 1) else 0

/-- Bits 3 to 0 of status byte 9 and of the first ROSTER byte: image kind and certainty. -/
def State.kindAndCertainty (s : State) : Nat := Certainty.code s.iu.certainty * 4 + s.imageKind

/-- The own id, once a configuration is held. -/
def State.ownId (s : State) : Option StationId := s.cfg.map (·.id)

/-- Own request in the image: 0 none, 1 queued, 2 active, and its place in the queue (R128); MEMBER only (R129). -/
def State.ownRequestItem (s : State) : Nat × Option Nat :=
  match s.sc.state, s.iu.image, s.ownId with
  | .member, some m, some i =>
    if m.capture.map (·.request.requester) = some i then (2, none)
    else match m.queue.findIdx? (·.requester = i) with
      | some place => (1, some place)
      | none => (0, none)
  | _, _, _ => (0, none)

/-- Pending request: 0 none, 1 pending, 2 held back against the image at the moment of reading (R128). -/
def State.pendingRequestItem (s : State) : Nat :=
  if s.cb.request.isNone then 0
  else match s.iu.image, s.ownId with
    | some m, some i => if m.holdsBack i then 2 else 1
    | _, _ => 1

/-- The entry assigned by the plan of the current cycle, while MEMBER (R97). -/
def State.assignedItem (s : State) : Option Nat :=
  match s.sc.state, s.ct.plan, s.cfg with
  | .member, some p, some c => p.assignedEntry c.plan.length
  | _, _, _ => none

/-- Type of the current cycle, while an image is held (R20, R35). -/
def State.cycleTypeItem (s : State) : Option CycleType := if s.iu.image.isSome then s.ct.plan.map (·.type) else none

def State.captureHeld (s : State) : Option Capture := s.iu.image.bind (·.capture)

def State.gatherHeld (s : State) : Option Gather := s.iu.image.bind (·.gather)

/-- Occupancy and records in flight, 0 outside MEMBER (R153). -/
def State.occupancyItem (s : State) : Nat := if s.sc.state = .member then s.rt.occupancy else 0

def State.inFlightItem (s : State) : Nat := if s.sc.state = .member then s.rt.inFlight.length else 0

/-- The close age of the FILLING half. -/
def DeliveryUnit.ageItem (d : DeliveryUnit) : Option Nat := d.filling.map (fun h => (d.get h).age)

/-! ### The status word, group by group -/

/-- Bytes 0 to 8: station and loader. -/
def State.statusStation (s : State) (draw : Nat) : List Byte :=
  [s.sc.state.code, FaultReason.code s.sc.faultReason,
    partlyNamed draw 2 0x0F#8
      (flagsByte false false false false s.frameInFlight s.sc.holdoff.isSome s.sc.departing s.sc.joiningWanted),
    BitVec.ofNat 8 s.sc.attempts, s.sc.joinHold.code, BitVec.ofNat 8 s.sc.refusedJoins, Removal.code s.sc.removal,
    s.ld.phase.code, BitVec.ofNat 8 s.ld.count]

/-- Bytes 9 to 17: agreement, cycle and trunk counts. -/
def State.statusTrunk (s : State) (draw : Nat) : List Byte :=
  [partlyNamed draw 9 0x7F#8 (twoNibbles s.ct.state.code s.kindAndCertainty)] ++
    bytesOf16 ((s.iu.image.map (·.epoch)).getD 0) ++ bytesOf16 ((s.iu.image.map (·.cycle)).getD 0) ++
    [CycleType.code s.cycleTypeItem, BitVec.ofNat 8 s.ti.errors, BitVec.ofNat 8 s.ti.foreign,
      BitVec.ofNat 8 s.ti.inconsistent]

/-- Bytes 18 to 22: sweep, converter and range. -/
def State.statusSweep (s : State) (draw : Nat) : List Byte :=
  [orNone (s.cfg.map (·.plan.length)), orNone (s.iu.image.map (·.cursor)),
    orNone s.assignedItem,
    partlyNamed draw 21 0x01#8 (flagsByte false false false false false false false s.converting), s.rm]

/-- Byte 23: pending request, own request and its queue place; while the own request is not QUEUED, R128 and 12.4 give bits 5-4 no value, and they are free (log 17). -/
def State.statusRequest (s : State) (draw : Nat) : Byte :=
  partlyNamed draw 23 (if s.ownRequestItem.2.isSome then 0x3F#8 else 0x0F#8)
    (twoNibbles (s.ownRequestItem.2.getD 0) (s.ownRequestItem.1 * 4 + s.pendingRequestItem))

/-- Bytes 25 to 27: the active capture. -/
def State.statusCapture (s : State) (draw : Nat) : List Byte :=
  match s.captureHeld with
  | some c =>
    [partlyNamed draw 25 0x8F#8 (twoNibbles 8 c.request.requester.val), c.request.serial,
      twoNibbles c.request.total c.next]
  | none => [partlyNamed draw 25 0x80#8 0, Config.unnamedBits draw 26, Config.unnamedBits draw 27]

/-- Bytes 23 to 30: captures. -/
def State.statusCaptures (s : State) (draw : Nat) : List Byte :=
  [s.statusRequest draw, orNone (s.iu.image.map (·.queue.length))] ++ s.statusCapture draw ++
    [s.cb.serial, (s.cp.lastRefusal.map (·.1.code)).getD 0, orNone (s.cp.lastRefusal.map (·.2.toNat))]

/-- Bytes 32 to 36: the halt gather. -/
def State.statusGather (s : State) (draw : Nat) : List Byte :=
  match s.gatherHeld with
  | some g => bytesOf16 g.required ++ bytesOf16 g.acked ++ [BitVec.ofNat 8 g.elapsed]
  | none => (List.range 5).map (fun k => Config.unnamedBits draw (32 + k))

/-- Bytes 31 to 38: halt. -/
def State.statusHalt (s : State) (draw : Nat) : List Byte :=
  [twoNibbles
      ((if s.cb.haltReq then 8 else 0) + (if s.cb.resumeReq then 4 else 0) + (if s.cb.haltAck then 2 else 0) +
        s.halt.outcome.code / 2)
      (s.halt.outcome.code % 2 * 8 + (if s.gatherHeld.isSome then 4 else 0) + RunState.code (s.iu.image.map (·.run)))] ++
    s.statusGather draw ++ bytesOf16 s.halt.unacked

/-- Bytes 39 to 50: transport and delivery. -/
def State.statusDelivery (s : State) (draw : Nat) : List Byte :=
  [BitVec.ofNat 8 s.occupancyItem, BitVec.ofNat 8 s.inFlightItem,
    partlyNamed draw 41 0x01#8 (flagsByte false false false false false false false s.rt.gapPending),
    partlyNamed draw 42 0x3F#8 (twoNibbles (HalfId.code s.du.first) (s.du.h1.code * 4 + s.du.h0.code)),
    BitVec.ofNat 8 s.du.h0.records.length, BitVec.ofNat 8 s.du.h1.records.length, orNone s.du.ageItem] ++
    bytesOf16 s.du.counter ++
    [partlyNamed draw 48 0x01#8 (flagsByte false false false false false false false s.du.droppedPending)] ++
    bytesOf16 (BitVec.ofNat 16 s.du.dropped)

/-- Bytes 51 to 53: reset cause, ALERT and the event flags, not cleared. -/
def State.statusPort (s : State) (draw : Nat) : List Byte :=
  [partlyNamed draw 51 0x83#8 (twoNibbles (if s.alert then 8 else 0) s.rc.cause.code)] ++ bytesOf16 s.cp.flags

/-- The status word, 54 bytes (R170, 12.4). -/
def State.statusWord (s : State) (draw : Nat) : List Byte :=
  s.statusStation draw ++ s.statusTrunk draw ++ s.statusSweep draw ++ s.statusCaptures draw ++ s.statusHalt draw ++
    s.statusDelivery draw ++ s.statusPort draw

/-! ### ROSTER and READ (R165, R166, R171) -/

/-- Own position; FFh outside MEMBER (12.4). -/
def State.ownPositionItem (m : Image) (s : State) : Option Nat :=
  match s.sc.state, s.ownId with
  | .member, some i => m.position i
  | _, _ => none

/-- The ROSTER response after its code byte (R171, 12.4). -/
def State.rosterResponse (s : State) (draw : Nat) : List Byte :=
  partlyNamed draw 0 0x0F#8 (twoNibbles 0 s.kindAndCertainty) ::
    (match s.iu.image with
      | some m =>
        orNone (s.ownPositionItem m) :: bytesOf16 m.epoch ++ bytesOf16 m.cycle ++
          BitVec.ofNat 8 m.roster.length :: m.roster.map encodeEntry
      | none => [0])

/-- The header of a CLOSED half, 8 bytes (R166, 12.4). -/
def halfHeader (draw : Nat) (half : HalfId) (records : List Delivered) (sequence : Word16) (cause : CloseCause) : List Byte :=
  let cycles := records.map (·.record.cycle)
  partlyNamed draw 0 0x83#8 (twoNibbles (if half = .h1 then 8 else 0) cause.code) ::
    bytesOf16 sequence ++ [BitVec.ofNat 8 records.length] ++ bytesOf16 (lowestCycle (firstCycle records) cycles) ++
    bytesOf16 (highestCycle (firstCycle records) cycles)

/-- Bytes 4 to 7 of a delivered record: as trunk bytes 3-4, the serial, as trunk byte 6, its bits 7, 3 and 2 always 0 (log 43); the last two read 0 for a REGULAR record. -/
def deliveredTail (r : Record) : List Byte :=
  match r.kind with
  | .regular entry => bytesOf16 (recordWord entry r.value) ++ [0, 0]
  | .priority requester serial repeatIndex element =>
    bytesOf16 (recordWord requester r.value) ++ [serial, recordByte6 repeatIndex element]

/-- A delivered record, 8 bytes, the first at byte `index` of what follows the response code (12.4). -/
def deliveredBytes (draw index : Nat) (d : Delivered) : List Byte :=
  [recordByte0 d.record, partlyNamed draw (index + 1) 0xF1#8 (twoNibbles d.origin.val (if d.dropped then 1 else 0))] ++
    bytesOf16 d.record.cycle ++ deliveredTail d.record

/-- Delivered records one after another. -/
def deliveredFrom (draw : Nat) : Nat → List Delivered → List Byte
  | _, [] => []
  | index, d :: rest => deliveredBytes draw index d ++ deliveredFrom draw (index + 8) rest

/-- The first closed half with what it holds (R164). -/
def DeliveryUnit.firstClosed (d : DeliveryUnit) : Option (HalfId × List Delivered × Word16 × CloseCause) :=
  match d.first with
  | some h =>
    match d.get h with
    | .closed records sequence cause => some (h, records, sequence, cause)
    | .free | .filling _ _ => none
  | none => none

/-- A free value was drawn for a response. -/
def State.drawn (s : State) : State := s.setFree (s.free + 1)

/-! ### The commands of the port -/

/-- STATUS (R170). -/
def execStatus (s : State) : Host.Outcome State Fault Refusal :=
  .next (s.portCommand (s.drawn.respond .done (s.statusWord s.free)))

/-- EVENTS (R172): the flags, which it clears. -/
def execEvents (s : State) : Host.Outcome State Fault Refusal :=
  .next (s.portCommand ((s.setCp { s.cp with flags := 0 }).respond .done (bytesOf16 s.cp.flags)))

/-- ROSTER (R171). -/
def execRoster (s : State) : Host.Outcome State Fault Refusal :=
  .next (s.portCommand (s.drawn.respond .done (s.rosterResponse s.free)))

/-- READ (R165). With no half CLOSED the answer is NONE_CLOSED for every start index, 64 to 255 included (log 37). -/
def State.readHalf (start : Byte) (s : State) : State :=
  match s.du.firstClosed with
  | some (half, records, sequence, cause) =>
    let header := halfHeader s.free half records sequence cause
    if start.toNat < records.length then
      s.drawn.respond .done (header ++ deliveredFrom s.free 8 (records.drop start.toNat))
    else s.drawn.respond .badArgument header
  | none => s.respond .noneClosed []

def execRead (start : Byte) (s : State) : Host.Outcome State Fault Refusal := .next (s.portCommand (s.readHalf start))

/-- RELEASE (R164). -/
def State.releaseFirst (sequence : Word16) (s : State) : State :=
  match s.du.firstClosed with
  | some (half, _, held, _) =>
    if sequence = held then (s.setDu (s.du.releaseHalf half)).respond .done [] else s.respond .badArgument []
  | none => s.respond .noneClosed []

def execRelease (sequence : Word16) (s : State) : Host.Outcome State Fault Refusal :=
  .next (s.portCommand (s.releaseFirst sequence))

/-- CLOSE (R163). -/
def State.closeFilling (s : State) : State :=
  match s.du.filling with
  | some h => if (s.du.get h).records.isEmpty then s.respond .empty [] else (s.closeHalf h .command).respond .done []
  | none => s.respond .noneFilling []

def execClose (s : State) : Host.Outcome State Fault Refusal := .next (s.portCommand s.closeFilling)

/-- CAPTURE (R112), its conditions in the order of the table. -/
def State.takeCaptureCommand (total : Byte) (s : State) : State :=
  if s.sc.state ≠ .member ∨ s.sc.departing = true then s.respond .wrongState []
  else if total.toNat = 0 ∨ 8 < total.toNat then s.respond .badArgument []
  else if s.cb.request.isSome then s.respond .merged []
  else (s.postRequest .command total.toNat).respond .done []

def execCapture (total : Byte) (s : State) : Host.Outcome State Fault Refusal :=
  .next (s.portCommand (s.takeCaptureCommand total))

/-- HALT (R131). -/
def State.takeHalt (s : State) : State :=
  if s.sc.state ≠ .member then s.respond .wrongState []
  else if s.cb.haltReq then s.respond .already []
  else (s.setCb { s.cb with haltReq := true, resumeReq := false, reposted := true }).respond
    (if s.cb.resumeReq then .replaced else .done) []

def execHalt (s : State) : Host.Outcome State Fault Refusal := .next (s.portCommand s.takeHalt)

/-- RESUME (R131). -/
def State.takeResume (s : State) : State :=
  if s.sc.state ≠ .member then s.respond .wrongState []
  else if s.cb.resumeReq then s.respond .already []
  else (s.setCb { s.cb with resumeReq := true, haltReq := false, reposted := true }).respond
    (if s.cb.haltReq then .replaced else .done) []

def execResumeCommand (s : State) : Host.Outcome State Fault Refusal := .next (s.portCommand s.takeResume)

/-- JOIN (R61). A station in IDLE holds a configuration (R60). -/
def State.takeJoin (now : Instant) (s : State) : State :=
  match s.sc.state, s.cfg with
  | .idle, some c =>
    ((s.setSc { s.sc with joiningWanted := true, attempts := 0 }).listenUntimed c now).respond .done []
  | .listen, _ =>
    if s.sc.joiningWanted then s.respond .already []
    else (s.setSc { s.sc with joiningWanted := true, attempts := 0 }).respond .done []
  | .joining, _ | .member, _ => s.respond (if s.sc.departing then .wrongState else .already) []
  | .loading, _ | .fault, _ | .idle, none => s.respond .wrongState []

def execJoin (now : Instant) (s : State) : Host.Outcome State Fault Refusal := .next (s.portCommand (s.takeJoin now))

/-- The station's JOIN is ARBITRATING, SENDING or ABORTING (R62). -/
def State.joinOnLine (s : State) : Bool :=
  !s.holdsBeat && (match s.ti.tx with
    | .arbitrating | .sending | .aborting => true
    | .idle | .armed => false)

/-- LEAVE (R62). -/
def State.takeLeaveCommand (s : State) : State :=
  match s.sc.state with
  | .loading | .fault => s.respond .wrongState []
  | .idle => s.respond .already []
  | .listen =>
    if s.joinOnLine then (s.setSc { s.sc with deferredLeave := true }).respond .done [] else s.takeLeave.respond .done []
  | .joining | .member => if s.sc.departing then s.respond .already [] else s.takeLeave.respond .done []

def execLeave (s : State) : Host.Outcome State Fault Refusal := .next (s.portCommand s.takeLeaveCommand)

/-- RESET (R175): the reset follows at the release of this select. -/
def execReset (s : State) : Host.Outcome State Fault Refusal :=
  .next (s.portCommand ((s.setCp { s.cp with resetAtRelease := true }).respond .done []))

/-- UNKNOWN: the code alone, without effect (R168, R191); FFh is clocked out after it (misoByte). -/
def execUnknown (_code : Byte) (s : State) : Host.Outcome State Fault Refusal := .next (s.portCommand (s.respond .unknown []))

/-- SELECT_RELEASE: the transaction ends, and a RESET taken in it has its effect (R168, R175). -/
def execSelectRelease (now : Instant) (s : State) : Host.Outcome State Fault Refusal :=
  .next (
    if s.cp.resetAtRelease then (s.resetBy .command .none s.rc.resetnLow).startLoading now
    else s.setCp { s.cp with response := none })

end Sys2Proof.Machine
end

