-- ==== Sys2Proof/Machine/Sampling.lean ====
section
/-! DEFINITION. Conversions, offset correction, the range monitor and TRIG (R34, R88, R98 to R111, R120, R121). -/

namespace Sys2Proof.Machine

/-! ### Starting conversions (R99) -/

/-- One conversion of a plan or group entry, its sample not yet taken. -/
def conversionOf (p : PhasePlan) (kind : RecordKind) (e : PlanEntry) : Conversion :=
  { channel := e.channel, sample := none, kind, cycle := p.cycle, monitored := e.monitored, discard := false }

/-- The group conversions of a PRIORITY plan, in group order from `element` on (R99, R120). -/
def groupConversions (p : PhasePlan) (capture : Capture) : Nat → List PlanEntry → List Conversion
  | _, [] => []
  | element, e :: rest =>
    conversionOf p (.priority capture.request.requester capture.request.serial (Fin.ofNat 8 capture.next) (Fin.ofNat 4 element)) e ::
      groupConversions p capture (element + 1) rest

/-- The conversions that a plan calls for at its phase (R88, R99, R120). -/
def conversionsCalled (c : StationConfig) (p : PhasePlan) : List Conversion :=
  match p.type with
  | .regular =>
    match p.assignedEntry c.plan.length with
    | some index =>
      match c.plan[index]? with
      | some e => [conversionOf p (.regular (Fin.ofNat 16 index)) e]
      | none => []
    | none => []
  | .priority =>
    match p.capture with
    | some capture => groupConversions p capture 0 c.group
    | none => []
  | .drain | .halted => []

/-- The conversion with its sample taken, unless it was taken before (R99). -/
def Conversion.sampled (samples : Samples) (v : Conversion) : Conversion :=
  { v with sample := some (v.sample.getD (samples.get v.channel)) }

/-- R99: an IDLE converter takes every sample at the phase instant and begins; a CONVERTING one gets the conversions behind those in flight. -/
def Sequencer.append (q : Sequencer) (now : Instant) (samples : Samples) (added : List Conversion) : Sequencer :=
  if q.inFlight.isEmpty then
    { inFlight := added.map (Conversion.sampled samples), completion := if added.isEmpty then none else some (now + conversionTime) }
  else { q with inFlight := q.inFlight ++ added }

/-- A phase is taken: the next one waits, and the sequencer has its signal if the plan calls here (R34, R36). -/
def State.takePhase (c : StationConfig) (samples : Samples) (p : PhasePlan) (k : Mark) (s : State) : State :=
  let q := s.ct.nextPhase
  let signalled := decide (p.called = some q) && !s.ct.phaseTaken
  let next := s.setCt { s.ct with nextPhase := q + 1, phaseTaken := s.ct.phaseTaken || signalled }
  if signalled then
    next.setSq (s.sq.append (phaseInstant c k.instant p.members q) samples (conversionsCalled c p))
  else next

/-! ### Completion (R100) -/

/-- R102: the sum of raw result and offset, clamped to 0 to 4095, and CLAMPED. -/
def corrected (raw : Sample) (offset : Int) : Sample × Bool :=
  let sum : Int := raw.toNat + offset
  if sum < 0 then (0, true) else if 4095 < sum then (4095#12, true) else (BitVec.ofNat 12 sum.toNat, false)

/-- R104: LOW and HIGH of a judged value. -/
def rangeFlags (c : StationConfig) (value : Sample) : Bool × Bool :=
  (decide (value.toNat < c.rangeLow), decide (c.rangeHigh < value.toNat))

/-- The map entry of a channel (R105): true for OUT. -/
def channelOut (map : Byte) (channel : Channel) : Bool := map.getLsbD channel.val

/-- The map with the entry of a channel set OUT or IN. -/
def setChannel (map : Byte) (channel : Channel) (out : Bool) : Byte :=
  if out then map ||| (1#8 <<< channel.val) else map &&& ~~~(1#8 <<< channel.val)

/-- R104, R105, R107: a judged result. The request of a move from IN to OUT is posted where R107's three conditions hold, at a priority result of a capture that the station's own request started too: R107's sentence that none is posted there is read as following from a map entry that is already OUT (log 42). -/
def State.judgeRange (c : StationConfig) (channel : Channel) (outOfRange : Bool) (s : State) : State :=
  let wasOut := channelOut s.rm channel
  let s := s.setRm (setChannel s.rm channel outOfRange)
  if outOfRange then
    let s := s.raise .range
    if wasOut = false ∧ c.autoRequest = true then s.postRequest .range c.rangeTotal else s
  else s

/-- The record of a completed conversion, GAP apart (R109). -/
def recordOf (c : StationConfig) (v : Conversion) (raw : Sample) : Record :=
  let value := corrected raw (c.offsets.get v.channel)
  let flags := rangeFlags c value.1
  { kind := v.kind, channel := v.channel, cycle := v.cycle, value := value.1, low := v.monitored && flags.1,
    high := v.monitored && flags.2, clamped := value.2, gap := false }

/-- R100: correction, range judgment and the outgoing queue, for an unmarked completion. -/
def State.resultOf (c : StationConfig) (v : Conversion) (raw : Sample) (s : State) : State :=
  let r := recordOf c v raw
  let s := if v.monitored then s.judgeRange c v.channel (r.low || r.high) else s
  s.setRt (s.rt.enter r)

/-- The list without its head; the next conversion begins and takes its sample if it has none (R99, R100). -/
def Sequencer.completed (q : Sequencer) (now : Instant) (samples : Samples) : Sequencer :=
  match q.inFlight.tail with
  | [] => { inFlight := [], completion := none }
  | v :: rest => { inFlight := v.sampled samples :: rest, completion := some (now + conversionTime) }

/-! ### The commands -/

/-- PHASE: the next phase instant is reached (R34). The CT of a MEMBER times phases, from a mark. -/
def execPhase (samples : Samples) (s : State) : Host.Outcome State Fault Refusal :=
  .next (s.configured fun c =>
    match s.ct.plan, s.ct.mark with
    | some p, some k =>
      if s.sc.state = .member ∧ s.ct.nextPhase < p.members then s.takePhase c samples p k else s
    | _, _ => s)

/-- CONVERSION_COMPLETE: the first conversion of the list completes (R100, R101). -/
def execConversionComplete (samples : Samples) (s : State) : Host.Outcome State Fault Refusal :=
  .next (s.configured fun c =>
    match s.sq.inFlight, s.sq.completion with
    | v :: _, some now =>
      let done := s.setSq (s.sq.completed now samples)
      if v.discard then done else done.resultOf c v (v.sample.getD (samples.get v.channel))
    | _, _ => s)

/-- TRIG_RISING_EDGE: a post with cause EXTERNAL (R111). -/
def execTrigRisingEdge (s : State) : Host.Outcome State Fault Refusal :=
  .next (s.configured fun c => s.postRequest .external c.externalTotal)

end Sys2Proof.Machine
end

