-- ==== Sys2Proof/Machine/Station.lean ====
section
/-! DEFINITION. The timers of the station controller: founding (R64, R65, R5) and holdoff (R84). -/

namespace Sys2Proof.Machine

/-- The image of a new group (R5). -/
def foundingImage (c : StationConfig) : Image :=
  { epoch := 1, cycle := 0, digest := c.digest, roster := [{ id := c.id, missed := 0, admitted := false }],
    run := if c.autorun then .running else .halted, gather := none, cursor := 0, queue := [], capture := none }

/-- The station founds a group (R65): its image, MEMBER SYNCED, the CT at its reset values, and the first cycle opens at once. -/
def State.found (c : StationConfig) (now : Instant) (s : State) : State :=
  let m := foundingImage c
  let s := s.setIu { image := some m, copy := some m, certainty := some .synced, marks := .empty }
  let s := (s.setSc { s.sc with state := .member, departing := false, attempts := 0, founding := none }).raise .joined
  let s := ((s.setRm 0).setHalt .empty).setTi s.ti.dropArmed
  (s.setCt .stopped).openCycle c now false

/-- FOUNDING_TIMER_EXPIRY (R64). The first expiry after the end of a holdoff founds, though it may come less than one founding wait after that end: R64's sentence on the holdoff disagrees with its timer rules, and the model follows the rules (log 40). -/
def execFoundingTimerExpiry (s : State) : Host.Outcome State Fault Refusal :=
  .next (s.configured fun c =>
    match s.sc.state, s.sc.founding with
    | .listen, some expiry =>
      if s.sc.joiningWanted ∧ s.sc.holdoff.isNone then s.found c expiry
      else s.setSc { s.sc with founding := some (expiry + foundingWait c) }
    | _, _ => s)

/-- HOLDOFF_EXPIRY: the timer stops (R84). The founding timer runs on as it was (log 40). -/
def execHoldoffExpiry (s : State) : Host.Outcome State Fault Refusal := .next (s.setSc { s.sc with holdoff := none })

end Sys2Proof.Machine
end

