-- ==== Sys2Proof/Machine/Dispatch.lean ====
section
/-! DEFINITION. One arm per command: the effect of a command on everything but the queue. -/

namespace Sys2Proof.Machine

def exec (i : Instr) (s : State) : Host.Outcome State Fault Refusal :=
  match i with
  -- resets and load
  | .powerOn => Sys2Proof.Machine.execPowerOn s
  | .powerOnDelayExpiry now => Sys2Proof.Machine.execPowerOnDelayExpiry now s
  | .resetnLow => Sys2Proof.Machine.execResetnLow s
  | .resetnRise now => Sys2Proof.Machine.execResetnRise now s
  | .busClear sdaLow => Sys2Proof.Machine.execBusClear sdaLow s
  | .addressByte acknowledged => Sys2Proof.Machine.execAddressByte acknowledged s
  | .imageByte received => Sys2Proof.Machine.execImageByte received s
  | .loadTimeout => Sys2Proof.Machine.execLoadTimeout s
  | .checking now => Sys2Proof.Machine.execChecking now s
  -- trunk interface
  | .frameStart now => Sys2Proof.Machine.execFrameStart now s
  | .frameEnd now line => Sys2Proof.Machine.execFrameEnd now line s
  | .frameBegin now => Sys2Proof.Machine.execFrameBegin now s
  | .arbitrationLoss => Sys2Proof.Machine.execArbitrationLoss s
  | .readbackMismatch sentRecessive => Sys2Proof.Machine.execReadbackMismatch sentRecessive s
  | .abortMarkEnd => Sys2Proof.Machine.execAbortMarkEnd s
  | .startGuardExpiry => Sys2Proof.Machine.execStartGuardExpiry s
  -- cycle timer
  | .slotPasses => Sys2Proof.Machine.execSlotPasses s
  | .joinWindowTimerExpiry => Sys2Proof.Machine.execJoinWindowTimerExpiry s
  | .cycleOpening => Sys2Proof.Machine.execCycleOpening s
  -- sequencer and converter, TRIG
  | .phase samples => Sys2Proof.Machine.execPhase samples s
  | .conversionComplete samples => Sys2Proof.Machine.execConversionComplete samples s
  -- station controller timers
  | .foundingTimerExpiry => Sys2Proof.Machine.execFoundingTimerExpiry s
  | .holdoffExpiry => Sys2Proof.Machine.execHoldoffExpiry s
  | .trigRisingEdge => Sys2Proof.Machine.execTrigRisingEdge s
  -- collector port
  | .status => Sys2Proof.Machine.execStatus s
  | .events => Sys2Proof.Machine.execEvents s
  | .roster => Sys2Proof.Machine.execRoster s
  | .read start => Sys2Proof.Machine.execRead start s
  | .release sequence => Sys2Proof.Machine.execRelease sequence s
  | .close => Sys2Proof.Machine.execClose s
  | .capture total => Sys2Proof.Machine.execCapture total s
  | .halt => Sys2Proof.Machine.execHalt s
  | .join now => Sys2Proof.Machine.execJoin now s
  | .leave => Sys2Proof.Machine.execLeave s
  | .reset => Sys2Proof.Machine.execReset s
  | .unknown code => Sys2Proof.Machine.execUnknown code s
  | .selectRelease now => Sys2Proof.Machine.execSelectRelease now s
  | .resumeCommand => Sys2Proof.Machine.execResumeCommand s

end Sys2Proof.Machine
end

