-- ==== Sys2Proof/Machine/Step.lean ====
section
/-! DEFINITION. One step of the block: the command at the front of the queue, or what an empty queue does. -/

namespace Sys2Proof.Machine

/-- On an empty queue the block idles, but for the end of the arbitration field: an ARBITRATING transmitter that has not lost goes on to SENDING (R44, log 4). -/
def State.idleStep (s : State) : State :=
  if s.ti.tx = .arbitrating then s.setTi { s.ti with tx := .sending } else s

/-- The machine's step. -/
def step (s : State) : Host.Outcome State Fault Refusal :=
  match s.pending with
  | [] => .next s.idleStep
  | i :: rest => exec i (s.setPending rest)

/-- The state with the command that a table word spells at the front of its queue; no word spells one (log 7). -/
def State.withFetchWord (s : State) (nbits w : Nat) : State :=
  match Sys2Proof.decodeTableWord nbits w with
  | some i => s.setPending (i :: s.pending)
  | none => s

end Sys2Proof.Machine
end

