-- ==== Sys2Proof/Safety.lean ====
section
/-! DEFINITION. What the manual says always holds: the laws of the blocks and how the blocks agree with the station state. The statements say that every step keeps them. And what statements say in several places: of a frame end, of a judgment, of an assembly, of a departure. -/

namespace Sys2Proof.Machine

/-- R177's table: the value of every block after a reset, whatever its source; the reset cause, the hold and the load timer follow the source. -/
def State.hasResetValues (s : State) : Prop :=
  (s.sc.state = .loading ∧ s.sc.faultReason = none ∧ s.sc.joiningWanted = false ∧ s.sc.departing = false ∧ s.sc.attempts = 0 ∧
      s.sc.holdoff = none ∧ s.sc.founding = none ∧ s.sc.joinHold = .none ∧ s.sc.refusedJoins = 0 ∧ s.sc.removal = none) ∧
    (s.iu.image = none ∧ s.iu.copy = none ∧ s.iu.certainty = none ∧ s.iu.marks = .empty) ∧
    (s.ct.state = .stopped ∧ s.ct.mark = none ∧ s.ct.nextOpening = none ∧ s.ct.pointer = 0 ∧ s.ct.silence = none ∧
      s.ct.window = none ∧ s.ct.heard = 0 ∧ s.ct.summarySeen = false ∧ s.ct.plan = none) ∧
    (s.ti.tx = .idle ∧ s.ti.frame = none ∧ s.ti.receiving = none ∧ s.ti.clashSuspect = false ∧ s.ti.errors = 0 ∧
      s.ti.foreign = 0 ∧ s.ti.inconsistent = 0) ∧
    (s.cb.request = none ∧ s.cb.haltReq = false ∧ s.cb.resumeReq = false ∧ s.cb.haltAck = false ∧ s.cb.leave = false ∧
      s.cb.serial = 0) ∧
    (s.sq.inFlight = [] ∧ s.cfg = none ∧ s.rm = 0 ∧ s.halt.outcome = .none ∧ s.halt.unacked = 0) ∧
    (s.rt.queue = [] ∧ s.rt.inFlight = [] ∧ s.rt.gapPending = false) ∧
    (s.du.h0 = .filling [] 0 ∧ s.du.h1 = .free ∧ s.du.counter = 0 ∧ s.du.first = none ∧ s.du.droppedPending = false ∧
      s.du.dropped = 0) ∧
    (s.cp.flags = 0 ∧ s.cp.mask = 0x0002 ∧ s.cp.response = none ∧ s.cp.resetAtRelease = false ∧ s.cp.lastRefusal = none) ∧
    (s.ld.phase = .starting ∧ s.ld.count = 0 ∧ s.ld.bytes = [])

/-- A command of the collector port can be taken: RESETn is high and the select has carried none (R168). -/
def State.portFree (s : State) : Prop := s.rc.resetnLow = false ∧ s.cp.response = none

/-- The transmitter holds a JOIN that is being sent or aborted (R62). -/
def State.sendsJoin (s : State) : Prop :=
  (∃ digest, s.ti.frame = some (.join digest)) ∧ (s.ti.tx = .arbitrating ∨ s.ti.tx = .sending ∨ s.ti.tx = .aborting)

/-- FRAME_END at `s` closes the join window (R31): the rules of that frame end lead to `u`, and then comes the cycle end, the very one that JOIN_WINDOW_TIMER_EXPIRY gives at `u`. The accepted records of the frame are placed before or after it (R162, log 13), and not at all at a station that the cycle end takes to FAULT (log 39). -/
def State.closesWindowWith (s : State) (now : Instant) (line : List Bool) (origin : StationId) (records : List Record) (u : State) :
    Prop :=
  ∃ v, exec .joinWindowTimerExpiry u = .next v ∧
    (records = [] ∨ v.sc.state = .fault → exec (.frameEnd now line) s = .next v) ∧
    (records ≠ [] → v.sc.state ≠ .fault →
      exec (.frameEnd now line) s =
          exec .joinWindowTimerExpiry (records.foldl (State.deliver origin) (u.setFree (u.free + 1))) ∨
        ∃ w, exec .joinWindowTimerExpiry (u.setFree (u.free + 1)) = .next w ∧
          exec (.frameEnd now line) s = .next (records.foldl (State.deliver origin) w))

/-- The phase plan that the CT holds is the one that an image gives (R35, R36), its conversions taken out where `suppressed` (R78). -/
def CycleTimer.plannedBy (t : CycleTimer) (c : StationConfig) (x : Image) (suppressed : Bool) : Prop :=
  t.plan = some { cycle := x.cycle, type := x.cycleType, members := x.roster.length, position := x.position c.id,
                  cursor := x.cursor, capture := x.capture, suppressed }

/-- The CT after a cycle opened at instant `e` from the image `m` (R21, R35, R36): its mark provisional but at a heard frame start, no phase reached, the plan that of `m`. -/
def CycleTimer.opensWith (t : CycleTimer) (c : StationConfig) (m : Image) (departing : Bool) (e : Instant) (provisional : Bool) : Prop :=
  t.state = .slots ∧ t.pointer = 0 ∧ t.heard = 0 ∧ t.summarySeen = false ∧ t.mark = some { instant := e, provisional } ∧
    t.nextOpening = some (e + c.period * unitsPerMicrosecond) ∧ t.nextPhase = 0 ∧ t.phaseTaken = false ∧ t.plannedBy c m departing

/-- What R37 and R94 leave in the CT at a summary `x` taken at instant `now`: mark, next opening and the phase taken kept, the plan that of `x`, summary-seen set. The phases to come are those of the new N whose instant, reckoned from the mark as it stands (log 33), is not before `now` (log 21); without a mark there are none (R38). -/
def CycleTimer.refixed (t before : CycleTimer) (c : StationConfig) (x : Image) (now : Instant) (suppressed : Bool) : Prop :=
  t.plannedBy c x suppressed ∧ t.mark = before.mark ∧ t.nextOpening = before.nextOpening ∧ t.phaseTaken = before.phaseTaken ∧
    t.summarySeen = true ∧ t.nextPhase ≤ x.roster.length ∧ (before.mark = none → t.nextPhase = x.roster.length) ∧
    ∀ k p, before.mark = some k → p < x.roster.length →
      (p < t.nextPhase ↔ k.instant + p * (c.period * unitsPerMicrosecond) / x.roster.length < now)

/-- What R38 leaves in the CT at a summary `x` whose sender stands at position `q` in it: no mark and no next opening, so no phase to come, the plan that of `x`, summary-seen set, and the heard set up to the sender. -/
def CycleTimer.takenUp (t : CycleTimer) (c : StationConfig) (x : Image) (sender : StationId) (q : Nat) (suppressed : Bool) : Prop :=
  t.plannedBy c x suppressed ∧ t.mark = none ∧ t.nextOpening = none ∧ t.phaseTaken = false ∧ t.summarySeen = true ∧
    t.nextPhase = x.roster.length ∧ t.heard = IdSet.add (IdSet.ofList (x.ids.take (q + 1))) sender

/-- The header of a BEAT disagrees with an image in which its sender stands at position `p` (R55). -/
def Beat.disagrees (b : Beat) (m : Image) (p : Nat) : Bool := b.epoch != m.epoch || b.cycle != m.cycle || b.position.val != p

/-- The trunk interface after the frame end of a BEAT whose summary was confirmed or taken: the frame is INCONSISTENT where its header disagrees (R55), and its count stays within 255 (R51). -/
def TrunkInterface.counts (t : TrunkInterface) (b : Beat) (m : Image) (p : Nat) : TrunkInterface :=
  { t with
    receiving := none
    inconsistent := if b.disagrees m p = true then (if t.inconsistent < 255 then t.inconsistent + 1 else 255) else t.inconsistent }

/-- R55 after the summary step that left `u`: another epoch or cycle number than the image's makes a MEMBER DOUBTFUL, although R10 says that a header alone never does so to a SYNCED receiver (log 41); another position leaves the items, and the items of a header that agrees are applied (R7). The pointer is not held against the frame. -/
def State.afterHeader (u : State) (own : StationId) (b : Beat) (m : Image) (p : Nat) : State :=
  if b.epoch ≠ m.epoch ∨ b.cycle ≠ m.cycle then
    (if u.sc.state = .member then u.setIu { u.iu with certainty := some .doubtful } else u)
  else if b.position.val ≠ p then u
  else u.applyItems own b.sender b.items

/-- FRAME_END at `s` settles a slot (R26): the rules of that frame end lead to `u`, whose pointer is at the sender's slot, and then comes what SLOT_PASSES gives at `u` at that instant: the pointer takes the position after it, the next slot begins (R24) or the join window opens with the judgment of a join (R29, R67). The accepted records of the frame come last, and not at all at a station that the judgment took to FAULT (R68, R154). -/
def State.settlesSlotWith (s : State) (now : Instant) (line : List Bool) (origin : StationId) (records : List Record) (u : State) :
    Prop :=
  ∃ v, exec .slotPasses u = .next v ∧
    (v.sc.state ≠ .fault → v.ct.pointer = u.ct.pointer + 1 ∧ v.ct.heard = u.ct.heard ∧ v.iu = u.iu) ∧
    exec (.frameEnd now line) s = .next (if v.sc.state = .fault then v else records.foldl (State.deliver origin) v)

/-- What a LISTEN station judges at the opening of its join window at instant `e` (R67, R68): `x` is the image held, `seen` its summary-seen flag, `sc` and `ti` its station controller and trunk interface before, `t` the state after. The first condition that fails is kept; with none, a JOIN is ARMED, or another digest than the own one leads to FAULT(PLAN_MISMATCH). -/
def State.joinJudged (t : State) (c : StationConfig) (x : Image) (e : Instant) (seen : Bool) (sc : StationController)
    (ti : TrunkInterface) : Prop :=
  let held : JoinHold → Prop := fun reason => t.sc = { sc with joinHold := reason } ∧ t.ti = ti
  (sc.joiningWanted = false → held .notWanted) ∧
    (sc.joiningWanted = true →
      (sc.holdoff.isSome → held .holdoff) ∧
      (sc.holdoff = none →
        (seen = false → held .noSummary) ∧
        (seen = true →
          (x.lists c.id = true → held .idListed) ∧
          (x.lists c.id = false →
            (16 ≤ x.roster.length → held .full) ∧
            (x.roster.length < 16 →
              (x.digest = c.digest → t.sc = { sc with joinHold := .ready } ∧
                t.ti = { ti with tx := .armed, frame := some (.join c.digest),
                                 startGuard := some (e + c.silence * unitsPerMicrosecond / 2) }) ∧
              (x.digest ≠ c.digest → t.sc.state = .fault ∧ t.sc.faultReason = some .planMismatch ∧ t.iu = .empty ∧
                t.ct = .stopped ∧ t.ti.tx = .idle ∧ t.ti.receiving = none ∧ t.flag .fault = true))))))

/-- The BEAT that a command at `s` assembles at instant `now` (R48), in the state `t` after it: header and DOUBT from image, certainty and position, the cycle-start copy as summary by R9, the first 12 records, and while SYNCED the pending items in their fixed order, a PRIORITY_REQ held back while the image holds the station's own request (R114). The HALT_ACK is judged by R136 and the LEAVE by R79 against the queue after the take; a called phase that can no longer be taken holds neither back (log 32). -/
def State.assembles (s : State) (c : StationConfig) (now : Instant) (t : State) : Prop :=
  ∃ (m : Image) (items : List Item), t.iu.image = some m ∧
    (let records := s.rt.inFlight ++ s.rt.queue
      let drained := records.length ≤ 12 ∧ t.sq.inFlight = [] ∧
        ∀ p q, t.ct.plan = some p → p.called = some q → t.ct.mark = none ∨ t.ct.phaseTaken = true ∨ q < t.ct.nextPhase
      let awaited := ∃ g, m.gather = some g ∧ IdSet.has g.required c.id = true ∧ IdSet.has g.acked c.id = false
      let held := (∃ r ∈ m.queue, r.requester = c.id) ∨ ∃ a, m.capture = some a ∧ a.request.requester = c.id
      t.sc.state = .member ∧ t.ct.state = .slots ∧ t.ct.position = some t.ct.pointer ∧
        t.rt = { s.rt with queue := records.drop 12, inFlight := records.take 12 } ∧
        t.cb = { s.cb with haltAck := t.cb.haltAck, leave := t.cb.leave, reposted := false } ∧
        (t.cb.haltAck = true ↔ awaited ∧ (s.cb.haltAck = true ∨ ((∃ p, t.ct.plan = some p ∧ p.type = .drain) ∧ drained))) ∧
        (t.cb.leave = true ↔ s.cb.leave = true ∨ (t.sc.departing = true ∧ drained)) ∧
        t.ti.tx = .armed ∧ t.ti.startGuard = some (now + c.silence * unitsPerMicrosecond / 2) ∧
        t.ti.frame = some (.beat (t.iu.certainty != some .synced) m.epoch m.cycle (Fin.ofNat 16 t.ct.pointer) items items
          (if t.iu.certainty = some .synced ∧ t.ct.summarySeen = false then t.iu.copy else none)) ∧
        codesAscending (items.map Item.code) = true ∧ (t.iu.certainty ≠ some .synced → items = []) ∧
        (t.iu.certainty = some .synced →
          (Item.haltAck ∈ items ↔ t.cb.haltAck = true) ∧ (Item.resumeReq ∈ items ↔ s.cb.resumeReq = true) ∧
          (Item.haltReq ∈ items ↔ s.cb.haltReq = true) ∧ (Item.leave ∈ items ↔ t.cb.leave = true) ∧
          ∀ q n k, Item.priorityReq q n k ∈ items ↔ s.cb.request = some (q, n) ∧ k = s.cb.serial ∧ ¬ held))

/-- What the adoption of the summary `x` at the MEMBER `s` reports, whether or not the summary lists it (R16, R127): DIVERGED where it differs from the cycle-start copy, and REFUSED for the own request that a halting or halted group no longer holds. -/
def State.reportsDivergence (u s : State) (own : StationId) (x : Image) : Prop :=
  (s.iu.copy ≠ some x → u.flag .diverged = true) ∧
    ∀ k r, s.iu.copy = some k → k.ownRequest own = some r → x.ownRequest own = none → (x.gather.isSome ∨ x.run = .halted) →
      u.flag .refused = true ∧ u.cp.lastRefusal = some (.halting, r.serial)

/-- What an adoption reports at a station that stays MEMBER (R127, R140, R173): ROSTER at another epoch, DRAINING at a gather that the copy did not hold, and the change of the run state with the halt outcome. -/
def State.reportsAdoption (u s : State) (own : StationId) (x : Image) : Prop :=
  u.reportsDivergence s own x ∧
    ∀ k, s.iu.copy = some k →
      (k.epoch ≠ x.epoch → u.flag .roster = true) ∧ (k.gather = none → x.gather.isSome → u.flag .draining = true) ∧
      (k.run = .running → x.run = .halted → u.halt = { outcome := .adopted, unacked := 0 } ∧ u.flag .halted = true) ∧
      (k.run = .halted → x.run = .running → u.halt = { outcome := .none, unacked := 0 } ∧ u.flag .resumed = true) ∧
      (k.run = x.run → u.halt = s.halt)

/-- What R31 leaves in the CT of a station that takes a summary of `n` roster entries at the frame end that closes its window: the pointer at N, the window closing at this instant. -/
def CycleTimer.closesBy (t : CycleTimer) (n : Nat) (now : Instant) : Prop :=
  t.state = .window ∧ t.window = some now ∧ t.pointer = n

/-- R81 as far as a departure for LISTEN shows it: pending set and outgoing queue discarded, the conversions in flight marked, the halt report empty, the delivery unit as it was. -/
def State.departedFrom (u s : State) : Prop :=
  (u.cb.request = none ∧ u.cb.haltReq = false ∧ u.cb.resumeReq = false ∧ u.cb.haltAck = false ∧ u.cb.leave = false ∧
      u.cb.serial = s.cb.serial) ∧
    u.rt = { queue := [], inFlight := [], gapPending := true } ∧
    u.sq = { s.sq with inFlight := s.sq.inFlight.map (fun v => { v with discard := true }) } ∧
    u.halt = { outcome := .none, unacked := 0 } ∧ u.du = s.du

/-- R145: queue and frame in flight share 24 places, and a frame takes at most 12 records (R148). -/
def RecordTransport.wf (t : RecordTransport) : Prop := t.occupancy ≤ 24 ∧ t.inFlight.length ≤ 12

/-- No item is pending. -/
def ItemBuffer.isEmpty (b : ItemBuffer) : Prop :=
  b.request = none ∧ b.haltReq = false ∧ b.resumeReq = false ∧ b.haltAck = false ∧ b.leave = false

/-- R110: the pending set never holds both HALT_REQ and RESUME_REQ and is non-empty only while the station is MEMBER. -/
def State.pendingSetOk (s : State) : Prop :=
  ¬ (s.cb.haltReq = true ∧ s.cb.resumeReq = true) ∧ (s.sc.state ≠ .member → s.cb.isEmpty)

/-- R117: at most four queued requests, no two of one requester, none of the active capture's requester. -/
def Image.queueLaw (m : Image) : Prop :=
  m.queue.length ≤ 4 ∧ distinctRequesters m.queue = true ∧
    ∀ k, m.capture = some k → ∀ r ∈ m.queue, r.requester ≠ k.request.requester

/-- R2, R71, R117: the roster and queue laws of an image. -/
def Image.laws (m : Image) : Prop := m.rosterOk = true ∧ m.queueLaw

/-- The image held and the cycle-start copy obey their laws. -/
def State.imagesOk (s : State) : Prop :=
  (∀ m, s.iu.image = some m → m.laws) ∧ (∀ m, s.iu.copy = some m → m.laws)

/-- The CT times a cycle (R20). -/
def CtState.timed (t : CtState) : Prop := t = .slots ∨ t = .window ∨ t = .interval

/-- The image held lists the station's own id (R77). -/
def State.listsSelf (s : State) : Prop := ∀ c m, s.cfg = some c → s.iu.image = some m → m.lists c.id = true

/-- R1, R20, R42, R51, R58: what image unit, cycle timer and trunk interface hold in each station state. -/
def State.trunkAgrees (s : State) : Prop :=
  match s.sc.state with
  | .loading | .idle | .fault => s.iu = .empty ∧ s.ct = .stopped ∧ s.ti.tx = .idle ∧ s.ti.receiving = none
  | .listen =>
    s.iu.copy = none ∧ s.iu.certainty = none ∧
      ((s.iu.image = none ∧ s.ct.state = .untimed) ∨ (s.iu.image.isSome ∧ s.ct.state.timed))
  | .joining => s.iu.image.isSome ∧ s.iu.copy = none ∧ s.iu.certainty = none ∧ s.ct.state.timed
  | .member => s.iu.image.isSome ∧ s.iu.copy.isSome ∧ s.iu.certainty.isSome ∧ s.ct.state.timed ∧ s.listsSelf

/-- R177, R178, R186, R187: load phase, configuration fields and hold agree with the station state. -/
def State.loadAgrees (s : State) : Prop :=
  (s.sc.state = .loading ↔ s.ld.phase ≠ .done ∧ s.ld.phase ≠ .failed) ∧
    (s.cfg.isSome ↔ s.ld.phase = .done) ∧
    (s.ld.phase = .failed → s.sc.state = .fault) ∧
    (s.ld.timer.isSome → s.ld.phase = .starting ∨ s.ld.phase = .addressing ∨ s.ld.phase = .reading) ∧
    (s.rc.hold ≠ .none → s.ld = .afterReset)

/-- The counts of 0 to 255 are within their range: receive errors, FOREIGN and INCONSISTENT frames (R51), refused joins (R72). The dropped count's is in DeliveryUnit.wf (R160). -/
def State.countsBounded (s : State) : Prop :=
  s.ti.errors ≤ 255 ∧ s.ti.foreign ≤ 255 ∧ s.ti.inconsistent ≤ 255 ∧ s.sc.refusedJoins ≤ 255

/-- The blocks agree with the station state. -/
def State.agrees (s : State) : Prop := s.loadAgrees ∧ s.trunkAgrees

end Sys2Proof.Machine
end

