-- ==== Sys2Proof/Certificates/Slice0/Obligations.lean ====
section
/-! DEFINITION. The statements for the provers. -/

open Sys2Proof Sys2Proof.Machine

/-! ### The step -/

/-- A step runs the command at the front of the queue on the state with the queue's rest. -/
def Obligations.StepRunsFrontCommand : Prop :=
  ∀ (c : Instr) (s : State) (rest : List Instr), s.pending = c :: rest → step s = exec c (s.setPending rest)

/-- Every command of the table answers a next state, in every state, leaves the queue alone and stays within the blocks that its rules name: each clause lists the commands that may change a block. The two clauses of an empty queue are the model's choice (log 4): a step ends the arbitration field, and otherwise nothing happens. -/
def Obligations.EveryStepAnswersANextState : Prop :=
  (∀ (c : Instr) (s : State), ∃ t, exec c s = .next t ∧ t.pending = s.pending ∧
      (match c with
        | .powerOn | .resetnLow | .selectRelease _ | .powerOnDelayExpiry _ | .resetnRise _ => True
        | _ => t.rc = s.rc) ∧
      (match c with
        | .powerOn | .resetnLow | .selectRelease _ | .powerOnDelayExpiry _ | .resetnRise _ | .busClear _ | .addressByte _
        | .imageByte _ | .loadTimeout | .checking _ => True
        | _ => t.ld = s.ld ∧ t.cfg = s.cfg ∧ t.cp.mask = s.cp.mask) ∧
      (match c with
        | .powerOn | .resetnLow | .selectRelease _ | .frameEnd _ _ | .joinWindowTimerExpiry | .release _ | .close => True
        | _ => t.du = s.du) ∧
      (match c with
        | .powerOn | .resetnLow | .selectRelease _ | .frameEnd _ _ | .foundingTimerExpiry | .conversionComplete _ => True
        | _ => t.rm = s.rm) ∧
      (match c with
        | .powerOn | .resetnLow | .selectRelease _ | .busClear _ | .addressByte _ | .loadTimeout | .checking _ | .frameEnd _ _
        | .abortMarkEnd | .joinWindowTimerExpiry | .phase _ | .conversionComplete _ => True
        | _ => t.sq = s.sq) ∧
      (match c with
        | .powerOn | .resetnLow | .selectRelease _ | .busClear _ | .addressByte _ | .loadTimeout | .checking _ | .frameEnd _ _
        | .abortMarkEnd | .joinWindowTimerExpiry | .foundingTimerExpiry => True
        | _ => t.halt = s.halt) ∧
      (match c with
        | .powerOn | .resetnLow | .selectRelease _ | .busClear _ | .addressByte _ | .loadTimeout | .checking _ | .frameEnd _ _
        | .abortMarkEnd | .joinWindowTimerExpiry | .foundingTimerExpiry | .frameStart _ | .cycleOpening | .slotPasses
        | .arbitrationLoss | .startGuardExpiry | .conversionComplete _ => True
        | _ => t.rt = s.rt) ∧
      (match c with
        | .powerOn | .resetnLow | .selectRelease _ | .busClear _ | .addressByte _ | .loadTimeout | .checking _ | .frameEnd _ _
        | .abortMarkEnd | .joinWindowTimerExpiry | .foundingTimerExpiry | .frameStart _ | .cycleOpening | .slotPasses
        | .conversionComplete _ | .trigRisingEdge | .capture _ | .halt | .resumeCommand => True
        | _ => t.cb = s.cb)) ∧
    ∀ s : State, s.pending = [] →
      (s.ti.tx ≠ .arbitrating → step s = .next s) ∧
        (s.ti.tx = .arbitrating → step s = .next (s.setTi { s.ti with tx := .sending }))

/-! ### Resets and load -/

/-- POWER_ON, RESETN_LOW and SELECT_RELEASE after RESET give every block its reset values, and the cause is the source. At the reset itself the station drives neither the trunk nor MISO nor ALERT, and after a power-on or a pin reset, which hold it, not the I2C lines either; that a command taken later in the power-on hold is answered on MISO is log 35's. -/
def Obligations.ResetSourcesGiveResetValues : Prop :=
  ∀ (s : State) (now : Instant),
    (∃ t, exec .powerOn s = .next t ∧ t.hasResetValues ∧ t.rc.cause = .powerOn ∧ t.rc.hold = .powerOnDelay ∧ t.ld.timer = none ∧
        t.drivesTrunk = false ∧ t.drivesMiso = false ∧ t.alert = false ∧ t.drivesI2C = false) ∧
      (∃ t, exec .resetnLow s = .next t ∧ t.hasResetValues ∧ t.rc.cause = .pin ∧ t.rc.hold = .resetnLow ∧
        t.rc.resetnLow = true ∧ t.ld.timer = none ∧ t.drivesTrunk = false ∧ t.drivesMiso = false ∧ t.alert = false ∧
        t.drivesI2C = false) ∧
      (s.cp.resetAtRelease = true →
        ∃ t, exec (.selectRelease now) s = .next t ∧ t.hasResetValues ∧ t.rc.cause = .command ∧ t.rc.hold = .none ∧
          t.ld.timer = some (now + 50000 * unitsPerMicrosecond) ∧ t.drivesTrunk = false ∧ t.drivesMiso = false ∧ t.alert = false)

/-- POWER_ON_DELAY_EXPIRY and RESETN_RISE end the hold they belong to: the bus clear begins with its limit of 50 ms, and every block but the loader and the reset control is as it was. BUS_CLEAR with SDA released leads to ADDRESSING, the fourth acknowledged ADDRESS_BYTE to READING, the 72nd IMAGE_BYTE to CHECKING with the limit of 50 ms stopped; each changes the loader alone. What the loader does on the bus (R179): nine pulses and a stop; start, A0h, 00h, 00h, repeated start, A1h; an acknowledge of every image byte but the 72nd, and a stop; nothing outside the transfer. -/
def Obligations.LoadingStartsAndTakesItsSteps : Prop :=
  (∀ (s : State) (now : Instant),
    (s.rc.hold = .powerOnDelay → s.rc.resetnLow = false →
      exec (.powerOnDelayExpiry now) s =
        .next ((s.setRc { s.rc with hold := .none }).setLd
          { phase := .starting, bytes := [], count := 0, addressed := 0, timer := some (now + 50000 * unitsPerMicrosecond) })) ∧
      (s.rc.hold = .resetnLow →
        exec (.resetnRise now) s =
          .next ((s.setRc { s.rc with hold := .none, resetnLow := false }).setLd
            { phase := .starting, bytes := [], count := 0, addressed := 0,
              timer := some (now + 50000 * unitsPerMicrosecond) }))) ∧
    (∀ (s : State) (b : Byte),
      (s.ld.phase = .starting → s.ld.timer.isSome → exec (.busClear false) s = .next (s.setLd { s.ld with phase := .addressing })) ∧
        (s.ld.phase = .addressing → s.ld.addressed < 3 →
          exec (.addressByte true) s = .next (s.setLd { s.ld with addressed := s.ld.addressed + 1 })) ∧
        (s.ld.phase = .addressing → s.ld.addressed = 3 →
          exec (.addressByte true) s = .next (s.setLd { s.ld with addressed := 4, phase := .reading })) ∧
        (s.ld.phase = .reading → s.ld.count < 71 →
          exec (.imageByte b) s = .next (s.setLd { s.ld with bytes := s.ld.bytes ++ [b], count := s.ld.count + 1 })) ∧
        (s.ld.phase = .reading → s.ld.count = 71 →
          exec (.imageByte b) s =
            .next (s.setLd { s.ld with bytes := s.ld.bytes ++ [b], count := 72, phase := .checking, timer := none }))) ∧
    ∀ l : Loader,
      (l.timer = none → l.sends = []) ∧
        (l.timer.isSome →
          (l.phase = .starting → l.sends = [.clockPulses 9, .stop]) ∧
          (l.phase = .addressing →
            (l.addressed = 0 → l.sends = [.start, .send 0xA0]) ∧ (l.addressed = 1 → l.sends = [.send 0]) ∧
            (l.addressed = 2 → l.sends = [.send 0]) ∧ (l.addressed = 3 → l.sends = [.repeatedStart, .send 0xA1])) ∧
          (l.phase = .reading →
            (l.count < 71 → l.sends = [.receive true]) ∧ (l.count = 71 → l.sends = [.receive false, .stop])))

/-- A load that fails, and its reason: SDA still low, a missing acknowledge and the limit of 50 ms give IMAGE_ABSENT; CHECKING gives the first check that fails, CRC before version before range. The station goes to FAULT, the bytes are discarded, the byte count stays, FAULT is raised, no field is handed over, and halves, record transport, pending set, converter, channel state map and reset cause are as they were. -/
def Obligations.LoadFailsWithItsReason : Prop :=
  ∀ (c : Instr) (s : State) (now : Instant) (reason : FaultReason), s.sc.state = .loading →
    ((reason = .imageAbsent ∧ ((c = .busClear true ∧ s.ld.phase = .starting ∧ s.ld.timer.isSome) ∨
        (c = .addressByte false ∧ s.ld.phase = .addressing) ∨ (c = .loadTimeout ∧ s.ld.timer.isSome))) ∨
      (c = .checking now ∧ s.ld.phase = .checking ∧
        ((reason = .imageCrc ∧ crc32 (s.ld.bytes.take 68) ≠ imageCrc s.ld.bytes) ∨
          (reason = .imageVersion ∧ crc32 (s.ld.bytes.take 68) = imageCrc s.ld.bytes ∧ imageByteAt s.ld.bytes 0 ≠ 1) ∨
          (reason = .imageRange ∧ crc32 (s.ld.bytes.take 68) = imageCrc s.ld.bytes ∧ imageByteAt s.ld.bytes 0 = 1 ∧
            ∀ f, fieldsOf s.ld.bytes = some f → configInRange f = false)))) →
    ∃ t, exec c s = .next t ∧ t.sc.state = .fault ∧ t.sc.faultReason = some reason ∧ t.ld.phase = .failed ∧
      t.ld.bytes = [] ∧ t.ld.count = s.ld.count ∧ t.ld.timer = none ∧ t.cp = { s.cp with flags := s.cp.flags ||| 0x0002 } ∧
      t.cfg = s.cfg ∧ t.ti.tx = .idle ∧ t.ti.receiving = none ∧ t.iu = .empty ∧ t.ct = .stopped ∧ t.du = s.du ∧ t.rt = s.rt ∧
      t.cb = s.cb ∧ t.sq = s.sq ∧ t.rm = s.rm ∧ t.rc = s.rc

/-- CHECKING of a good image: the fields and the plan digest are handed over, LOADED is set, the alert mask becomes the image's, the loader is DONE, and the join mode names the next state. A good image codes only fields in the ranges of R182, and its digest is the CRC-32 of R184's bytes. -/
def Obligations.GoodLoadHandsFieldsOver : Prop :=
  (∀ (s : State) (now : Instant) (c : StationConfig), s.ld.phase = .checking → checkImage s.ld.bytes = .ok c →
    ∃ t, exec (.checking now) s = .next t ∧ t.cfg = some c ∧ t.ld.phase = .done ∧ t.cp.mask = imageWordAt s.ld.bytes 66 ∧
      t.cp.flags = s.cp.flags ||| 0x0001 ∧ t.du = s.du ∧ t.rt = s.rt ∧ t.cb = s.cb ∧
      (c.joinMode = .manual → t.sc.state = .idle ∧ t.sc.joiningWanted = false) ∧
      (c.joinMode = .auto → t.sc.state = .listen ∧ t.sc.joiningWanted = true ∧ t.iu.image = none ∧ t.ct.state = .untimed ∧
        t.sc.founding = some (now + (4 + c.id.val) * (c.period * unitsPerMicrosecond))) ∧
      (c.joinMode = .observe → t.sc.state = .listen ∧ t.sc.joiningWanted = false ∧ t.iu.image = none ∧ t.ct.state = .untimed ∧
        t.sc.founding = some (now + (4 + c.id.val) * (c.period * unitsPerMicrosecond)))) ∧
    ∀ (bytes : List Byte) (c : StationConfig), checkImage bytes = .ok c →
      (c.rate = 1 ∧ 24000 ≤ c.period ∨ c.rate = 2 ∧ 12000 ≤ c.period ∨ c.rate = 5 ∧ 5000 ≤ c.period ∨
          c.rate = 10 ∧ 2500 ≤ c.period) ∧
        c.period ≤ 60000 ∧ 8 ≤ c.silence ∧ c.silence ≤ 250 ∧ 1 ≤ c.plan.length ∧ c.plan.length ≤ 16 ∧ 1 ≤ c.group.length ∧
        c.group.length ≤ 4 ∧ 1 ≤ c.externalTotal ∧ c.externalTotal ≤ 8 ∧ 1 ≤ c.rangeTotal ∧ c.rangeTotal ≤ 8 ∧
        (∀ k : Fin 8, -512 ≤ c.offsets.get k ∧ c.offsets.get k ≤ 511) ∧ c.rangeLow ≤ c.rangeHigh ∧ c.rangeHigh ≤ 4095 ∧
        (∀ k : Fin 4, (c.windows.get k).enabled = true →
          ((c.windows.get k).takesRegular = true ∨ (c.windows.get k).takesPriority = true) ∧ (c.windows.get k).base ≤ 127 ∧
            (c.windows.get k).limit ≤ 127) ∧
        c.closeAgeLimit ≤ 255 ∧ c.digest = crc32 (digestBytes c)

/-! ### Collector port -/

/-- STATUS is answered DONE with the status word of 12.4, 54 bytes, and changes nothing but the response (and the model's counter of free values). Every item of 12.4 has its clause: FFh where an item is none, and the named bits alone of a byte that has others, which are free values (log 17), as are the queue place while the own request is not QUEUED and the bytes of capture and gather while there is none. -/
def Obligations.StatusShowsStateAndChangesNothing : Prop :=
  ∀ s : State, s.portFree →
    ∃ (w : List Byte) (b9 b21 b23 b25 b31 b41 b42 b48 b51 : Byte), w.length = 54 ∧
      exec .status s = .next ((s.setFree (s.free + 1)).setCp { s.cp with response := some (0x00 :: w) }) ∧
      w[0]? = some s.sc.state.code ∧ w[1]? = some (FaultReason.code s.sc.faultReason) ∧
        w[2]?.map (· &&& 0x0F#8) =
          some (byteOf false false false false s.frameInFlight s.sc.holdoff.isSome s.sc.departing s.sc.joiningWanted) ∧
        w[3]? = some (BitVec.ofNat 8 s.sc.attempts) ∧ w[4]? = some s.sc.joinHold.code ∧
        w[5]? = some (BitVec.ofNat 8 s.sc.refusedJoins) ∧ w[6]? = some (Removal.code s.sc.removal) ∧
        w[7]? = some s.ld.phase.code ∧ w[8]? = some (BitVec.ofNat 8 s.ld.count) ∧
        (w[9]? = some b9 ∧ (b9.extractLsb' 0 2).toNat = s.imageKind ∧
          (b9.extractLsb' 2 2).toNat = Certainty.code s.iu.certainty ∧ (b9.extractLsb' 4 3).toNat = s.ct.state.code) ∧
        (∀ m, s.iu.image = some m → (w.drop 10).take 4 = bytesOf16 m.epoch ++ bytesOf16 m.cycle) ∧
        (s.iu.image = none → (w.drop 10).take 4 = [0, 0, 0, 0]) ∧ w[14]? = some (CycleType.code s.cycleTypeItem) ∧
        (w.drop 15).take 3 = [BitVec.ofNat 8 s.ti.errors, BitVec.ofNat 8 s.ti.foreign, BitVec.ofNat 8 s.ti.inconsistent] ∧
        (∀ c, s.cfg = some c → w[18]? = some (BitVec.ofNat 8 c.plan.length)) ∧ (s.cfg = none → w[18]? = some 0xFF) ∧
        (∀ m, s.iu.image = some m → w[19]? = some (BitVec.ofNat 8 m.cursor)) ∧ (s.iu.image = none → w[19]? = some 0xFF) ∧
        (∀ c p n, s.sc.state = .member → s.cfg = some c → s.ct.plan = some p → p.assignedEntry c.plan.length = some n →
          w[20]? = some (BitVec.ofNat 8 n)) ∧
        ((s.sc.state ≠ .member ∨ ∀ c p, s.cfg = some c → s.ct.plan = some p → p.assignedEntry c.plan.length = none) →
          w[20]? = some 0xFF) ∧
        (w[21]? = some b21 ∧ b21.getLsbD 0 = s.converting) ∧ w[22]? = some s.rm ∧
        (w[23]? = some b23 ∧ (b23.extractLsb' 0 2).toNat = s.pendingRequestItem ∧
          (b23.extractLsb' 2 2).toNat = s.ownRequestItem.1 ∧
          ∀ place, s.ownRequestItem.2 = some place → place < 4 → (b23.extractLsb' 4 2).toNat = place) ∧
        (∀ m, s.iu.image = some m → w[24]? = some (BitVec.ofNat 8 m.queue.length)) ∧ (s.iu.image = none → w[24]? = some 0xFF) ∧
        (w[25]? = some b25 ∧ (s.captureHeld = none → b25.getLsbD 7 = false) ∧
          ∀ k, s.captureHeld = some k → b25.getLsbD 7 = true ∧ (b25.extractLsb' 0 4).toNat = k.request.requester.val ∧
            w[26]? = some k.request.serial ∧ w[27]? = some (twoNibbles k.request.total k.next)) ∧
        w[28]? = some s.cb.serial ∧
        (∀ reason serial, s.cp.lastRefusal = some (reason, serial) → w[29]? = some reason.code ∧ w[30]? = some serial) ∧
        (s.cp.lastRefusal = none → w[29]? = some 0 ∧ w[30]? = some 0xFF) ∧
        (w[31]? = some b31 ∧ b31.getLsbD 7 = s.cb.haltReq ∧ b31.getLsbD 6 = s.cb.resumeReq ∧ b31.getLsbD 5 = s.cb.haltAck ∧
          (b31.extractLsb' 3 2).toNat = s.halt.outcome.code ∧ b31.getLsbD 2 = s.gatherHeld.isSome ∧
          (b31.extractLsb' 0 2).toNat = RunState.code (s.iu.image.map (·.run))) ∧
        (∀ g, s.gatherHeld = some g →
          (w.drop 32).take 5 = bytesOf16 g.required ++ bytesOf16 g.acked ++ [BitVec.ofNat 8 g.elapsed]) ∧
        (w.drop 37).take 2 = bytesOf16 s.halt.unacked ∧
        (s.sc.state = .member →
          (w.drop 39).take 2 = [BitVec.ofNat 8 s.rt.occupancy, BitVec.ofNat 8 s.rt.inFlight.length]) ∧
        (s.sc.state ≠ .member → (w.drop 39).take 2 = [0, 0]) ∧ (w[41]? = some b41 ∧ b41.getLsbD 0 = s.rt.gapPending) ∧
        (w[42]? = some b42 ∧ (b42.extractLsb' 0 2).toNat = s.du.h0.code ∧ (b42.extractLsb' 2 2).toNat = s.du.h1.code ∧
          (b42.extractLsb' 4 2).toNat = HalfId.code s.du.first) ∧
        (w.drop 43).take 2 = [BitVec.ofNat 8 s.du.h0.records.length, BitVec.ofNat 8 s.du.h1.records.length] ∧
        (∀ h, s.du.filling = some h → w[45]? = some (BitVec.ofNat 8 (s.du.get h).age)) ∧
        (s.du.filling = none → w[45]? = some 0xFF) ∧ (w.drop 46).take 2 = bytesOf16 s.du.counter ∧
        (w[48]? = some b48 ∧ b48.getLsbD 0 = s.du.droppedPending) ∧
        (w.drop 49).take 2 = bytesOf16 (BitVec.ofNat 16 s.du.dropped) ∧
        (w[51]? = some b51 ∧ (b51.extractLsb' 0 2).toNat = s.rc.cause.code ∧ b51.getLsbD 7 = s.alert) ∧
        (w.drop 52).take 2 = bytesOf16 s.cp.flags

/-- EVENTS is answered DONE with the sixteen flags and clears them; nothing else changes. -/
def Obligations.EventsShowsAndClearsFlags : Prop :=
  ∀ s : State, s.portFree →
    exec .events s =
      .next (s.setCp
        { s.cp with flags := 0, response := some [0x00, s.cp.flags.extractLsb' 8 8, s.cp.flags.extractLsb' 0 8] })

/-- ROSTER is answered DONE with image kind and certainty and, from the image held, position, epoch, cycle number and entries; it changes nothing but the response. -/
def Obligations.RosterShowsImageHeld : Prop :=
  ∀ s : State, s.portFree →
    ∃ (b0 : Byte) (more : List Byte),
      exec .roster s = .next ((s.setFree (s.free + 1)).setCp { s.cp with response := some (0x00 :: b0 :: more) }) ∧
      b0 &&& 0x0F#8 = BitVec.ofNat 8 s.kindAndCertainty &&& 0x0F#8 ∧ (s.iu.image = none → more = [0]) ∧
      (∀ m, s.iu.image = some m →
        ∃ position : Byte, more =
            position :: bytesOf16 m.epoch ++ bytesOf16 m.cycle ++ BitVec.ofNat 8 m.roster.length :: m.roster.map encodeEntry ∧
          (s.sc.state ≠ .member → position = 0xFF) ∧
          (∀ c p, s.sc.state = .member → s.cfg = some c → m.position c.id = some p → position = BitVec.ofNat 8 p))

/-- READ, row by row of R165, with the bytes of header and delivered records that 12.4 names; the halves stay as they are. That a start index of 64 to 255 meets the first row too while no half is CLOSED is the model's reading of R165 with R191 (log 37), and so is that bits 7, 3 and 2 of a PRIORITY record's byte 7 read 0 whatever the trunk byte held (log 43). The lowest and the highest cycle number of the header have the smallest and the largest signed offset from the first record's (R166). -/
def Obligations.ReadAnswersFirstClosedHalf : Prop :=
  (∀ (s : State) (start : Byte), s.portFree →
      (s.du.first = none → exec (.read start) s = .next (s.setCp { s.cp with response := some [0x08] })) ∧
        (∀ h r n cause, s.du.first = some h → s.du.get h = .closed r n cause →
          ∃ header body : List Byte, header.length = 8 ∧
            (header.drop 1).take 3 = bytesOf16 n ++ [BitVec.ofNat 8 r.length] ∧
            header.drop 4 = bytesOf16 (lowestCycle (firstCycle r) (r.map (·.record.cycle))) ++
              bytesOf16 (highestCycle (firstCycle r) (r.map (·.record.cycle))) ∧
            header[0]?.map (· &&& 0x83#8) = some (twoNibbles (if h = .h1 then 8 else 0) cause.code) ∧
            (r.length ≤ start.toNat →
              exec (.read start) s = .next ((s.setFree (s.free + 1)).setCp { s.cp with response := some (0x05 :: header) })) ∧
            (start.toNat < r.length → body.length = 8 * (r.length - start.toNat) ∧
              (∀ i d, (r.drop start.toNat)[i]? = some d → body[8 * i]? = some (recordByte0 d.record) ∧
                body[8 * i + 1]?.map (· &&& 0xF1#8) = some (twoNibbles d.origin.val (if d.dropped then 1 else 0)) ∧
                (body.drop (8 * i + 2)).take 6 = bytesOf16 d.record.cycle ++ deliveredTail d.record) ∧
              exec (.read start) s =
                .next ((s.setFree (s.free + 1)).setCp { s.cp with response := some (0x00 :: header ++ body) })))) ∧
    ∀ (first : Word16) (rest : List Word16),
      lowestCycle first (first :: rest) ∈ first :: rest ∧ highestCycle first (first :: rest) ∈ first :: rest ∧
        ∀ x ∈ first :: rest, cycleOffset first (lowestCycle first (first :: rest)) ≤ cycleOffset first x ∧
          cycleOffset first x ≤ cycleOffset first (highestCycle first (first :: rest))

/-- RELEASE, row by row of R164: which half it empties, what that half becomes and which half is first closed then. -/
def Obligations.ReleaseFreesFirstClosedHalf : Prop :=
  ∀ (s : State) (q : Word16), s.portFree → s.du.wf = true →
    ((∀ h r n cause, s.du.get h ≠ .closed r n cause) →
        exec (.release q) s = .next (s.setCp { s.cp with response := some [0x08] })) ∧
      (∀ h r n cause, s.du.first = some h → s.du.get h = .closed r n cause →
        (q ≠ n → exec (.release q) s = .next (s.setCp { s.cp with response := some [0x05] })) ∧
        (q = n → ∃ d : DeliveryUnit,
          exec (.release q) s = .next ((s.setDu d).setCp { s.cp with response := some [0x00] }) ∧
          d.get h.other = s.du.get h.other ∧
          ((s.du.get h.other).isFilling = true → d.get h = .free ∧ d.first = none) ∧
          ((s.du.get h.other).isClosed = true → d.get h = .filling [] 0 ∧ d.first = some h.other) ∧
          d.counter = s.du.counter ∧ d.droppedPending = s.du.droppedPending ∧ d.dropped = s.du.dropped))

/-- CLOSE, row by row of R163. -/
def Obligations.CloseClosesFillingHalf : Prop :=
  ∀ s : State, s.portFree → s.du.wf = true →
    (∀ h r a, s.du.get h = .filling r a → r ≠ [] →
        exec .close s =
          .next ((s.setDu (s.du.closeHalf h .command)).setCp
            { s.cp with flags := s.cp.flags ||| 0x4000, response := some [0x00] })) ∧
      (∀ h a, s.du.get h = .filling [] a → exec .close s = .next (s.setCp { s.cp with response := some [0x06] })) ∧
      ((∀ h r a, s.du.get h ≠ .filling r a) → exec .close s = .next (s.setCp { s.cp with response := some [0x07] }))

/-- CAPTURE, in the order of R112's table. -/
def Obligations.CaptureIsAnsweredInOrder : Prop :=
  ∀ (s : State) (total : Byte), s.portFree →
    ((s.sc.state ≠ .member ∨ s.sc.departing = true) →
        exec (.capture total) s = .next (s.setCp { s.cp with response := some [0x04] })) ∧
      (s.sc.state = .member → s.sc.departing = false →
        ((total = 0 ∨ 8 < total.toNat) → exec (.capture total) s = .next (s.setCp { s.cp with response := some [0x05] })) ∧
        (total ≠ 0 → total.toNat ≤ 8 →
          (s.cb.request.isSome → exec (.capture total) s = .next (s.setCp { s.cp with response := some [0x03] })) ∧
          (s.cb.request = none →
            exec (.capture total) s =
              .next ((s.setCb { s.cb with request := some (.command, total.toNat) }).setCp
                { s.cp with response := some [0x00] }))))

/-- HALT and RESUME, in the order of R131's table. The mark that the item was posted since the last assembly is the model's (log 25). -/
def Obligations.HaltAndResumeAreAnsweredInOrder : Prop :=
  ∀ s : State, s.portFree →
    (s.sc.state ≠ .member →
        exec .halt s = .next (s.setCp { s.cp with response := some [0x04] }) ∧
          exec .resumeCommand s = .next (s.setCp { s.cp with response := some [0x04] })) ∧
      (s.sc.state = .member →
        (s.cb.haltReq = true → exec .halt s = .next (s.setCp { s.cp with response := some [0x01] })) ∧
        (s.cb.resumeReq = true → exec .resumeCommand s = .next (s.setCp { s.cp with response := some [0x01] })) ∧
        (s.cb.haltReq = false →
          exec .halt s =
            .next ((s.setCb { s.cb with haltReq := true, resumeReq := false, reposted := true }).setCp
              { s.cp with response := some [if s.cb.resumeReq then 0x02 else 0x00] })) ∧
        (s.cb.resumeReq = false →
          exec .resumeCommand s =
            .next ((s.setCb { s.cb with resumeReq := true, haltReq := false, reposted := true }).setCp
              { s.cp with response := some [if s.cb.haltReq then 0x02 else 0x00] })))

/-- JOIN, row by row of R61. -/
def Obligations.JoinCommandByState : Prop :=
  ∀ (s : State) (now : Instant), s.portFree →
    ((s.sc.state = .loading ∨ s.sc.state = .fault) →
        exec (.join now) s = .next (s.setCp { s.cp with response := some [0x04] })) ∧
      (∀ c, s.sc.state = .idle → s.cfg = some c →
        exec (.join now) s =
          .next ((((s.setIu { image := none, copy := none, certainty := none, marks := .empty }).setCt
            { CycleTimer.stopped with state := .untimed }).setSc
            { s.sc with state := .listen, joiningWanted := true, attempts := 0,
                        founding := some (now + (4 + c.id.val) * (c.period * unitsPerMicrosecond)) }).setCp
            { s.cp with response := some [0x00] })) ∧
      (s.sc.state = .listen → s.sc.joiningWanted = false →
        exec (.join now) s =
          .next ((s.setSc { s.sc with joiningWanted := true, attempts := 0 }).setCp { s.cp with response := some [0x00] })) ∧
      (s.sc.state = .listen → s.sc.joiningWanted = true →
        exec (.join now) s = .next (s.setCp { s.cp with response := some [0x01] })) ∧
      ((s.sc.state = .joining ∨ s.sc.state = .member) →
        exec (.join now) s = .next (s.setCp { s.cp with response := some [if s.sc.departing then 0x04 else 0x01] }))

/-- LEAVE, row by row of R62, with the LEAVE that waits for the own JOIN on the line, and what that LEAVE does at the frame end in the join window at which it takes effect. At the end of the own JOIN, read back as sent (from SENDING or by log 4 from ARBITRATING, recognised by its levels by log 11), the station becomes JOINING and departing, and then comes the cycle end (log 24). At the end of the frame that the JOIN lost to, whatever that frame is but one with the own id, the station enters IDLE with no cycle end, and the frame's accepted records are handed on. What a LEAVE does that waits for an abort mark is FrameBeginsOrFails's. -/
def Obligations.LeaveCommandByState : Prop :=
  (∀ s : State, s.portFree →
    ((s.sc.state = .loading ∨ s.sc.state = .fault) → exec .leave s = .next (s.setCp { s.cp with response := some [0x04] })) ∧
      (s.sc.state = .idle → exec .leave s = .next (s.setCp { s.cp with response := some [0x01] })) ∧
      ((s.sc.state = .joining ∨ s.sc.state = .member) → s.sc.departing = true →
        exec .leave s = .next (s.setCp { s.cp with response := some [0x01] })) ∧
      ((s.sc.state = .joining ∨ s.sc.state = .member) → s.sc.departing = false →
        exec .leave s =
          .next ((s.setSc { s.sc with departing := true, joiningWanted := false, deferredLeave := false }).setCp
            { s.cp with response := some [0x00] })) ∧
      (s.sc.state = .listen → s.sendsJoin →
        exec .leave s = .next ((s.setSc { s.sc with deferredLeave := true }).setCp { s.cp with response := some [0x00] })) ∧
      (s.sc.state = .listen → ¬ s.sendsJoin →
        (s.ti.tx = .idle ∨ s.ti.frame.isSome) →
        ∃ t, exec .leave s = .next t ∧ t.sc.state = .idle ∧ t.sc.joiningWanted = false ∧ t.sc.founding = none ∧
          t.sc.holdoff = s.sc.holdoff ∧ t.sc.attempts = s.sc.attempts ∧ t.iu.image = none ∧ t.ct.state = .stopped ∧
          t.ti.tx = .idle ∧ t.ti.frame = none ∧ t.ti.receiving = none ∧ t.cp = { s.cp with response := some [0x00] } ∧
          t.du = s.du ∧ t.rt = s.rt ∧ t.cb = s.cb ∧ t.sq = s.sq ∧ t.rm = s.rm ∧ t.cfg = s.cfg ∧ t.rc = s.rc)) ∧
    ∀ (s : State) (c : StationConfig) (m : Image) (now : Instant) (line : List Bool), s.cfg = some c → s.sc.state = .listen →
      s.sc.deferredLeave = true → s.iu.image = some m → s.ct.state = .window → s.ti.receiving = some true →
      (∀ digest, (s.ti.tx = .arbitrating ∨ s.ti.tx = .sending) → s.ti.frame = some (.join digest) →
        line = lineOf (withCrc (joinContent c.id digest)) →
        exec (.frameEnd now line) s =
          exec .joinWindowTimerExpiry ((((s.setTi { s.ti with tx := .idle, frame := none, startGuard := none, receiving := none,
                                                              clashSuspect := false, clashAfterAbort := false }).setSc
            { s.sc with state := .joining, departing := true, joiningWanted := false, founding := none, deferredLeave := false }).setIu
            { s.iu with marks := { s.iu.marks with join := some (c.id, digest) } }).setCt { s.ct with window := some now })) ∧
      (s.ti.tx = .idle → (∀ b inRange, receiveLine line = .whole (.beat b inRange) true → b.sender ≠ c.id) →
        (∀ sender digest, receiveLine line = .whole (.join sender digest) true → sender ≠ c.id) →
        ∃ t, exec (.frameEnd now line) s = .next t ∧
          t.sc = { s.sc with state := .idle, joiningWanted := false, departing := false, founding := none, deferredLeave := false } ∧
          t.iu = .empty ∧ t.ct = .stopped ∧ t.ti.tx = .idle ∧ t.ti.frame = none ∧ t.ti.receiving = none ∧ t.cb = s.cb ∧
          t.rt = s.rt ∧ t.sq = s.sq ∧ t.rm = s.rm ∧ t.halt = s.halt ∧
          ((receiveLine line = .cutShort ∨ (∃ f, receiveLine line = .whole f false) ∨
              ∃ i digest, receiveLine line = .whole (.join i digest) true) → t.du = s.du) ∧
          ∀ b, receiveLine line = .whole (.beat b true) true → b.structureOk c true = true → b.summary = none →
            (m.lists b.sender = true → t.du = ((b.records.filter (accepts c b.sender)).foldl (State.deliver b.sender) s).du) ∧
              (m.lists b.sender = false → t.du = s.du))

/-- RESET is answered DONE and waits for the release of its select; an UNKNOWN code is answered with its code alone and has no effect; a SELECT_RELEASE without RESET ends the response and nothing else; while RESETn is low, or once a select has carried a command, the port takes no command and nothing changes. The bytes clocked out are the response's and FFh after its end; without a response, and while RESETn is low, MISO is released. That it is driven in LOADING and in the power-on hold too is the model's reading of R168 and R178 against R188 (log 35). -/
def Obligations.SelectTakesOneCommand : Prop :=
  (∀ (s : State) (code : Byte) (now : Instant),
    (s.portFree →
        exec .reset s = .next (s.setCp { s.cp with resetAtRelease := true, response := some [0x00] }) ∧
          exec (.unknown code) s = .next (s.setCp { s.cp with response := some [0x09] })) ∧
      (s.cp.resetAtRelease = false → exec (.selectRelease now) s = .next (s.setCp { s.cp with response := none }))) ∧
    (∀ s : State,
      ((s.cp.response = none ∨ s.rc.resetnLow = true) → s.drivesMiso = false ∧ ∀ n, s.misoByte n = none) ∧
        (∀ r, s.cp.response = some r → s.rc.resetnLow = false →
          s.drivesMiso = true ∧ (∀ n x, r[n]? = some x → s.misoByte n = some x) ∧
            ∀ n, r.length ≤ n → s.misoByte n = some 0xFF)) ∧
    ∀ (c : Instr) (s : State) (bytes : List Byte), (s.rc.resetnLow = true ∨ s.cp.response.isSome) → encodePort c = some bytes →
      exec c s = .next s

/-! ### Delivery and acceptance -/

/-- The close of a FILLING half, the four actions of R161. -/
def Obligations.CloseOfHalfTakesItsActions : Prop :=
  ∀ (s : State) (h : HalfId) (r : List Delivered) (a : Nat) (cause : CloseCause), s.du.get h = .filling r a →
    let t := s.closeHalf h cause
    t.du.get h = .closed r s.du.counter cause ∧ t.du.counter = s.du.counter + 1 ∧
      ((s.du.get h.other).isClosed = true → t.du.first = some h.other ∧ t.du.get h.other = s.du.get h.other) ∧
      (s.du.get h.other = .free → t.du.first = some h ∧ t.du.get h.other = .filling [] 0) ∧ t.flag .closed = true ∧
      t.du.droppedPending = s.du.droppedPending ∧ t.du.dropped = s.du.dropped

/-- What becomes of the FILLING half. An accepted record is placed at its tail with the DROPPED flag of dropped-pending, the 64th closes it, and with neither half FILLING the record is dropped and counted. At a cycle end the half ages: not while empty, and at the close age limit it closes with cause AGE. An age past 255 is left open (log 16). -/
def Obligations.FillingHalfTakesRecordsAndAges : Prop :=
  (∀ (s : State) (origin : StationId) (r : Record), s.du.wf = true →
    (∀ h q a, s.du.get h = .filling q a → q.length < 63 →
        s.deliver origin r =
          s.setDu { s.du.set h (.filling (q ++ [{ record := r, origin, dropped := s.du.droppedPending }]) a) with
            droppedPending := false }) ∧
      (∀ h q a, s.du.get h = .filling q a → q.length = 63 →
        (s.deliver origin r).du.get h =
            .closed (q ++ [{ record := r, origin, dropped := s.du.droppedPending }]) s.du.counter .full ∧
          (s.deliver origin r).du.counter = s.du.counter + 1 ∧ (s.deliver origin r).du.droppedPending = false ∧
          (s.deliver origin r).du.dropped = s.du.dropped ∧ (s.deliver origin r).flag .closed = true) ∧
      ((∀ h q a, s.du.get h ≠ .filling q a) →
        s.deliver origin r =
          (s.setDu { s.du with droppedPending := true, dropped := if s.du.dropped < 65535 then s.du.dropped + 1 else 65535 }).setCp
            { s.cp with flags := s.cp.flags ||| 0x8000 })) ∧
    ∀ (s : State) (c : StationConfig), s.du.wf = true →
      (∀ h a, s.du.get h = .filling [] a → s.ageHalf c = s) ∧ ((∀ h q a, s.du.get h ≠ .filling q a) → s.ageHalf c = s) ∧
        (∀ h q a, s.du.get h = .filling q a → q ≠ [] → a + 1 < 256 → (c.closeAgeLimit = 0 ∨ a + 1 ≠ c.closeAgeLimit) →
          s.ageHalf c = s.setDu (s.du.set h (.filling q (a + 1)))) ∧
        (∀ h q a, s.du.get h = .filling q a → q ≠ [] → c.closeAgeLimit ≠ 0 → a + 1 = c.closeAgeLimit →
          (s.ageHalf c).du.get h = .closed q s.du.counter .age ∧ (s.ageHalf c).du.counter = s.du.counter + 1 ∧
            (s.ageHalf c).flag .closed = true)

/-- A record is accepted when at least one window matches it, by enable, kind and stream number. -/
def Obligations.RecordIsAcceptedByAMatchingWindow : Prop :=
  ∀ (c : StationConfig) (origin : StationId) (r : Record),
    accepts c origin r = true ↔
      ∃ k : Fin 4, (c.windows.get k).enabled = true ∧
        ((∃ entry, r.kind = .regular entry) → (c.windows.get k).takesRegular = true) ∧
        ((∃ q n i e, r.kind = .priority q n i e) → (c.windows.get k).takesPriority = true) ∧
        (c.windows.get k).base ≤ origin.val * 8 + r.channel.val ∧ origin.val * 8 + r.channel.val ≤ (c.windows.get k).limit

/-! ### Conversions -/

/-- The sum of raw result and the offset of the result's channel, clamped to 0 to 4095, with CLAMPED set when it was; the value goes into the record. -/
def Obligations.OffsetIsAddedAndClamped : Prop :=
  ∀ (c : StationConfig) (v : Conversion) (raw : Sample),
    let r := recordOf c v raw
    let sum : Int := raw.toNat + c.offsets.get v.channel
    (sum < 0 → r.value = 0 ∧ r.clamped = true) ∧
      (0 ≤ sum → sum ≤ 4095 → (r.value.toNat : Int) = sum ∧ r.clamped = false) ∧
      (4095 < sum → r.value = 4095 ∧ r.clamped = true) ∧ r.channel = v.channel

/-- A judged result: LOW and HIGH by the thresholds, RANGE at every out-of-range result, the map entry of its channel and of no other, and a request at a move from IN to OUT alone. That it is posted at a priority result of the capture of an own request too, where the map entry is still IN, is the model's reading of R107 (log 42). -/
def Obligations.RangeMonitorJudgesResults : Prop :=
  ∀ (s : State) (c : StationConfig) (v : Conversion) (raw : Sample),
    let r := recordOf c v raw
    let out := r.low || r.high
    let t := s.judgeRange c v.channel out
    (v.monitored = true → (r.low = true ↔ r.value.toNat < c.rangeLow) ∧ (r.high = true ↔ c.rangeHigh < r.value.toNat)) ∧
      (v.monitored = false → r.low = false ∧ r.high = false) ∧ channelOut t.rm v.channel = out ∧
      (∀ other, other ≠ v.channel → channelOut t.rm other = channelOut s.rm other) ∧ (out = true → t.flag .range = true) ∧
      (out = false → t.cp = s.cp ∧ t.cb = s.cb) ∧
      (out = true → channelOut s.rm v.channel = false → c.autoRequest = true → s.sc.state = .member → s.sc.departing = false →
        s.cb.request = none → t.cb = { s.cb with request := some (.range, c.rangeTotal) }) ∧
      (out = true → (channelOut s.rm v.channel = true ∨ c.autoRequest = false ∨ s.sc.state ≠ .member ∨ s.sc.departing = true ∨
        s.cb.request.isSome) → t.cb = s.cb)

/-- CONVERSION_COMPLETE: the head of the list leaves and the next one, if it has no sample, takes it now; a marked one is dropped whole; an unmarked one goes into the outgoing queue with GAP, or at 24 records is discarded with gap-pending set; an unmonitored one touches neither map, events nor pending set, and a monitored one changes them as its judgment does (RangeMonitorJudgesResults, log 42). -/
def Obligations.ConversionCompletes : Prop :=
  ∀ (s : State) (c : StationConfig) (samples : Samples) (v : Conversion) (rest : List Conversion) (now : Instant) (x : Sample),
    s.cfg = some c → s.sq.inFlight = v :: rest → s.sq.completion = some now → v.sample = some x →
    ∃ t, exec (.conversionComplete samples) s = .next t ∧ t.sq.inFlight.length = rest.length ∧
      (rest = [] → t.sq.completion = none) ∧
      (∀ w more, rest = w :: more →
        t.sq.inFlight = { w with sample := some (w.sample.getD (samples.get w.channel)) } :: more) ∧
      (rest ≠ [] → t.sq.completion = some (now + 3 * unitsPerMicrosecond)) ∧
      (v.discard = true → t.rt = s.rt ∧ t.rm = s.rm ∧ t.cb = s.cb ∧ t.cp = s.cp) ∧
      (v.discard = false → s.rt.occupancy < 24 →
        t.rt = { s.rt with queue := s.rt.queue ++ [{ recordOf c v x with gap := s.rt.gapPending }], gapPending := false }) ∧
      (v.discard = false → 24 ≤ s.rt.occupancy → t.rt = { s.rt with gapPending := true }) ∧
      (v.discard = false → v.monitored = false → t.rm = s.rm ∧ t.cb = s.cb ∧ t.cp = s.cp) ∧
      (v.discard = false → v.monitored = true →
        let judged := s.judgeRange c v.channel ((recordOf c v x).low || (recordOf c v x).high)
        t.rm = judged.rm ∧ t.cb = judged.cb ∧ t.cp = judged.cp) ∧
      t.sc = s.sc ∧ t.iu = s.iu ∧ t.ct = s.ct ∧ t.ti = s.ti ∧ t.du = s.du ∧ t.halt = s.halt

/-- PHASE at a MEMBER with a mark: the phase is counted, and the conversions that the plan calls for at it are started, or appended behind those in flight; nothing else changes. What a plan calls for: in a REGULAR cycle the entry (cursor + p) mod L at the own position, in a PRIORITY cycle the group at phase 0 in group order, nothing in a DRAIN or HALTED cycle or when the plan's conversions are taken out. -/
def Obligations.PhaseStartsTheConversionsOfItsPlan : Prop :=
  (∀ (s : State) (c : StationConfig) (samples : Samples) (p : PhasePlan) (k : Mark),
    s.cfg = some c → s.sc.state = .member → s.ct.plan = some p → s.ct.mark = some k → s.ct.nextPhase < p.members →
    ((p.called ≠ some s.ct.nextPhase ∨ s.ct.phaseTaken = true) →
        exec (.phase samples) s = .next (s.setCt { s.ct with nextPhase := s.ct.nextPhase + 1 })) ∧
      (p.called = some s.ct.nextPhase → s.ct.phaseTaken = false → s.sq.inFlight = [] → conversionsCalled c p ≠ [] →
        exec (.phase samples) s =
          .next ((s.setCt { s.ct with nextPhase := s.ct.nextPhase + 1, phaseTaken := true }).setSq
            { inFlight := (conversionsCalled c p).map
                (fun v => { v with sample := some (v.sample.getD (samples.get v.channel)) }),
              completion := some (k.instant + s.ct.nextPhase * (c.period * unitsPerMicrosecond) / p.members +
                3 * unitsPerMicrosecond) })) ∧
      (p.called = some s.ct.nextPhase → s.ct.phaseTaken = false → s.sq.inFlight ≠ [] →
        exec (.phase samples) s =
          .next ((s.setCt { s.ct with nextPhase := s.ct.nextPhase + 1, phaseTaken := true }).setSq
            { s.sq with inFlight := s.sq.inFlight ++ conversionsCalled c p }))) ∧
    ∀ (c : StationConfig) (p : PhasePlan),
      (p.suppressed = true → p.called = none) ∧
        (p.type = .drain ∨ p.type = .halted → p.called = none ∧ conversionsCalled c p = []) ∧
        (∀ q, p.suppressed = false → p.type = .regular → p.position = some q → 1 ≤ c.plan.length → c.plan.length ≤ 16 →
          p.called = some q ∧ p.assignedEntry c.plan.length = some ((p.cursor + q) % c.plan.length) ∧
          ∃ v e, conversionsCalled c p = [v] ∧ c.plan[(p.cursor + q) % c.plan.length]? = some e ∧ v.channel = e.channel ∧
            v.monitored = e.monitored ∧ v.cycle = p.cycle ∧ v.sample = none ∧ v.discard = false ∧
            ∃ entry : Fin 16, entry.val = (p.cursor + q) % c.plan.length ∧ v.kind = .regular entry) ∧
        (∀ q k, p.suppressed = false → p.type = .priority → p.position = some q → p.capture = some k → c.group.length ≤ 4 →
          k.next < 8 →
          p.called = some 0 ∧ (conversionsCalled c p).map (·.channel) = c.group.map (·.channel) ∧
          ∀ i v, (conversionsCalled c p)[i]? = some v → v.cycle = p.cycle ∧
            ∃ (j : Fin 8) (e : Fin 4), j.val = k.next ∧ e.val = i ∧
              v.kind = .priority k.request.requester k.request.serial j e)

/-- TRIG_RISING_EDGE posts an EXTERNAL request where a post is taken and none is pending, and otherwise leaves no trace; HOLDOFF_EXPIRY stops the holdoff timer and nothing else; the founding timer runs on (log 40). -/
def Obligations.TrigPostsAndHoldoffStops : Prop :=
  ∀ (s : State) (c : StationConfig), s.cfg = some c →
    (s.sc.state = .member → s.sc.departing = false → s.cb.request = none →
        exec .trigRisingEdge s = .next (s.setCb { s.cb with request := some (.external, c.externalTotal) })) ∧
      ((s.sc.state ≠ .member ∨ s.sc.departing = true ∨ s.cb.request.isSome) → exec .trigRisingEdge s = .next s) ∧
      exec .holdoffExpiry s = .next (s.setSc { s.sc with holdoff := none })

/-! ### Founding and the cycle timer -/

/-- FOUNDING_TIMER_EXPIRY in LISTEN: the station founds with the image of R5 and assembles a BEAT that carries it as its summary (R65; of its LEAVE and HALT_ACK, log 32), in a cycle whose phase plan is that of the image, or the timer restarts. A holdoff that has ended holds no founding back, however short a time ago it ended (log 40). -/
def Obligations.FoundingTimerFoundsOrRestarts : Prop :=
  ∀ (s : State) (c : StationConfig) (e : Instant), s.cfg = some c → s.sc.state = .listen → s.sc.founding = some e →
    ((s.sc.joiningWanted = false ∨ s.sc.holdoff.isSome) →
        exec .foundingTimerExpiry s =
          .next (s.setSc { s.sc with founding := some (e + (4 + c.id.val) * (c.period * unitsPerMicrosecond)) })) ∧
      (s.sc.joiningWanted = true → s.sc.holdoff = none →
        ∃ t, exec .foundingTimerExpiry s = .next t ∧
          t.iu = { image := some { epoch := 1, cycle := 0, digest := c.digest,
                                   roster := [{ id := c.id, missed := 0, admitted := false }],
                                   run := if c.autorun then .running else .halted, gather := none, cursor := 0, queue := [],
                                   capture := none },
                   copy := t.iu.image, certainty := some .synced, marks := .empty } ∧
          t.sc = { s.sc with state := .member, departing := false, attempts := 0, founding := none } ∧
          t.flag .joined = true ∧ t.rm = 0 ∧ t.halt.outcome = .none ∧ t.ct.state = .slots ∧ t.ct.pointer = 0 ∧
          t.ct.mark = some { instant := e, provisional := true } ∧
          t.ct.nextOpening = some (e + c.period * unitsPerMicrosecond) ∧ t.ct.heard = 0 ∧ t.ct.summarySeen = false ∧
          t.ct.members = 1 ∧ t.ct.position = some 0 ∧ (∀ m, t.iu.image = some m → t.ct.opensWith c m false e true) ∧ (s.ti.tx = .idle ∨ s.ti.tx = .armed → s.assembles c e t) ∧ t.du = s.du)

/-- CYCLE_OPENING in INTERVAL opens the cycle at the next-opening instant with a provisional mark (R21), and the type that its plan holds is that of the first line of R35 whose condition holds. The member at position 0 assembles its BEAT there (R48; log 32). -/
def Obligations.CycleOpensAtItsInstant : Prop :=
  ∀ (s : State) (c : StationConfig) (m : Image) (at0 : Instant), s.cfg = some c → s.iu.image = some m → s.ct.state = .interval →
    s.ct.nextOpening = some at0 →
    ((m.capture.isSome → m.cycleType = .priority) ∧ (m.capture = none → m.run = .halted → m.cycleType = .halted) ∧
        (m.capture = none → m.run = .running → m.gather.isSome → m.cycleType = .drain) ∧
        (m.capture = none → m.run = .running → m.gather = none → m.cycleType = .regular)) ∧
    ∃ t, exec .cycleOpening s = .next t ∧ t.ct.state = .slots ∧ t.ct.pointer = 0 ∧ t.ct.heard = 0 ∧ t.ct.summarySeen = false ∧
      t.ct.mark = some { instant := at0, provisional := true } ∧
      t.ct.nextOpening = some (at0 + c.period * unitsPerMicrosecond) ∧ t.ct.nextPhase = 0 ∧ t.ct.phaseTaken = false ∧
      t.ct.plan = some { cycle := m.cycle, type := m.cycleType, members := m.roster.length, position := m.position c.id,
                         cursor := m.cursor, capture := m.capture, suppressed := s.sc.departing } ∧
      (s.ti.receiving = none → t.ct.silence = some (at0 + c.silence * unitsPerMicrosecond)) ∧
      (s.sc.state = .member → m.position c.id = some 0 → s.ti.tx = .idle → s.assembles c at0 t) ∧
      t.iu = s.iu ∧ t.sc = s.sc ∧ t.du = s.du ∧ t.sq = s.sq ∧ t.rm = s.rm ∧ t.cp = s.cp ∧ t.halt = s.halt

/-- SLOT_PASSES at a LISTEN, JOINING or MEMBER station: the pointer moves on; the next slot begins, a MEMBER's own one with the assembly of a BEAT, or the join window opens. What a LISTEN station judges at that opening is JoinIsJudgedAtWindowOpening's. -/
def Obligations.SilentSlotPasses : Prop :=
  ∀ (s : State) (c : StationConfig) (e : Instant), s.cfg = some c → s.ct.state = .slots → s.ct.silence = some e →
    let next : CycleTimer :=
      { s.ct with pointer := s.ct.pointer + 1,
                  silence := if s.ti.receiving = none then some (e + c.silence * unitsPerMicrosecond) else none }
    (s.ct.pointer + 1 < s.ct.members → (s.sc.state ≠ .member ∨ s.ct.position ≠ some (s.ct.pointer + 1)) →
        exec .slotPasses s = .next (s.setCt next)) ∧
      (s.ct.pointer + 1 < s.ct.members → s.sc.state = .member → s.ct.position = some (s.ct.pointer + 1) → s.iu.image.isSome →
        s.ti.tx = .idle →
        ∃ t, exec .slotPasses s = .next t ∧ t.ct = next ∧ t.ti.tx = .armed ∧
          t.ti.startGuard = some (e + c.silence * unitsPerMicrosecond / 2) ∧
          t.rt.inFlight = (s.rt.inFlight ++ s.rt.queue).take 12 ∧ t.iu = s.iu ∧ t.sc = s.sc ∧ t.du = s.du ∧ t.sq = s.sq ∧
          t.rm = s.rm ∧ t.cp = s.cp ∧ t.halt = s.halt) ∧
      (s.ct.members ≤ s.ct.pointer + 1 → s.sc.state ≠ .listen →
        exec .slotPasses s =
          .next (s.setCt { s.ct with pointer := s.ct.pointer + 1, state := .window, silence := none,
                                     window := some (e + c.silence * unitsPerMicrosecond) }))

/-- The BEAT that a MEMBER assembles when SLOT_PASSES begins its own slot (R48), its contents those of State.assembles: header and DOUBT from its image, certainty and position, the cycle-start copy as summary by R9, the first 12 records, and while SYNCED the pending items in their fixed order, a PRIORITY_REQ held back while the image holds the station's own request (R114). The HALT_ACK is judged by R136 and the LEAVE by R79 against the queue after the take; of a called phase that can no longer be taken the model says that it holds neither back (log 32). And every BEAT that any command arms at a transmitter that is IDLE, at an opening, a founding, a frame end or a cycle end as well, holds the same, taken from the state that the command leaves. -/
def Obligations.OwnSlotAssemblesTheBeat : Prop :=
  (∀ (s : State) (c : StationConfig) (m : Image) (e : Instant), s.cfg = some c → s.sc.state = .member → s.iu.image = some m →
    s.ct.state = .slots → s.ct.silence = some e → s.ct.position = some (s.ct.pointer + 1) →
    s.ct.pointer + 1 < s.ct.members → s.ti.tx = .idle →
    ∃ t, exec .slotPasses s = .next t ∧ s.assembles c e t ∧ t.ct.pointer = s.ct.pointer + 1 ∧
      t.ti = { s.ti with tx := t.ti.tx, startGuard := t.ti.startGuard, frame := t.ti.frame } ∧
      t.iu = s.iu ∧ t.sc = s.sc ∧ t.du = s.du ∧ t.sq = s.sq ∧ t.rm = s.rm ∧ t.cp = s.cp ∧ t.halt = s.halt) ∧
    ∀ (i : Instr) (s t : State) (c : StationConfig), s.cfg = some c → s.ti.tx = .idle → s.sc.deferredLeave = false →
      exec i s = .next t → t.ti.tx = .armed →
      (∃ d e y p k l x, t.ti.frame = some (.beat d e y p k l x)) → ∃ now, s.assembles c now t

/-- The join window opens at a LISTEN station, by SLOT_PASSES or at the end of a clean BEAT of a listed sender at or past the last slot, with or without a summary: the CT enters WINDOW with its timer of S and the pointer moved on (R29), and the station judges its join (R67, R68) against the image it then holds: the first condition that fails, a JOIN armed, or FAULT(PLAN_MISMATCH), which takes no record (R154). -/
def Obligations.JoinIsJudgedAtWindowOpening : Prop :=
  (∀ (s : State) (c : StationConfig) (m : Image) (e : Instant), s.cfg = some c → s.sc.state = .listen → s.iu.image = some m →
    s.ct.state = .slots → s.ct.silence = some e → s.ct.members ≤ s.ct.pointer + 1 →
    ∃ t, exec .slotPasses s = .next t ∧
      (t.sc.state ≠ .fault → t.iu = s.iu ∧
        t.ct = { s.ct with pointer := s.ct.pointer + 1, state := .window, silence := none,
                           window := some (e + c.silence * unitsPerMicrosecond) }) ∧
      t.du = s.du ∧ t.rt = s.rt ∧ t.cb = s.cb ∧ t.sq = s.sq ∧ t.joinJudged c m e s.ct.summarySeen s.sc s.ti) ∧
    ∀ (s : State) (c : StationConfig) (m : Image) (b : Beat) (now : Instant) (line : List Bool) (p : Nat), s.cfg = some c →
      s.sc.state = .listen → s.sc.deferredLeave = false → s.ti.receiving = some false → s.ti.tx = .idle →
      receiveLine line = .whole (.beat b true) true → b.structureOk c true = true → b.sender ≠ c.id → m.position b.sender = some p →
      ((b.summary = some m ∧ (s.ct.state = .slots ∨ s.ct.state = .untimed) ∧ m.roster.length ≤ p + 1) ∨
        (b.summary = none ∧ s.iu.image = some m ∧ s.ct.state = .slots ∧ s.ct.pointer ≤ p ∧ s.ct.members ≤ p + 1)) →
      ∃ t, exec (.frameEnd now line) s = .next t ∧
        (t.sc.state ≠ .fault → t.ct.state = .window ∧ t.ct.window = some (now + c.silence * unitsPerMicrosecond) ∧
          t.ct.silence = none ∧ t.ct.pointer = p + 1 ∧ t.iu.image.isSome) ∧
        (t.sc.state = .fault → t.du = s.du) ∧ t.rt = s.rt ∧ t.cb = s.cb ∧ t.sq = s.sq ∧
        t.joinJudged c m now (s.ct.summarySeen || b.summary.isSome) s.sc
          { s.ti with receiving := none, inconsistent := t.ti.inconsistent }

/-- JOIN_WINDOW_TIMER_EXPIRY is the cycle end: at a MEMBER whose entry stays, the image has its cycle end applied and becomes the cycle-start copy, the marks are consumed, epoch and halt changes are reported, a JOIN that was marked and not admitted is counted (R72), the FILLING half ages, and the CT waits for mark + T, or opens the next cycle at this instant where that is past, with its type and phase plan (R21, R35, R36, R78) and the assembly of the BEAT of the member at position 0 (log 32). -/
def Obligations.WindowExpiryIsTheCycleEnd : Prop :=
  ∀ (s : State) (c : StationConfig) (m : Image) (e : Instant), s.cfg = some c → s.sc.state = .member → s.iu.image = some m →
    s.ct.state = .window → s.ct.window = some e →
    let m' := m.cycleEnd s.iu.marks s.ct.heard s.ct.plan c.digest c.plan.length
    m'.lists c.id = true →
    ∃ t, exec .joinWindowTimerExpiry s = .next t ∧ t.iu.image = some m' ∧ t.iu.copy = some m' ∧ t.iu.marks = .empty ∧
      m'.cycle = m.cycle + 1 ∧ m'.digest = m.digest ∧
      t.sc = { s.sc with refusedJoins :=
        if s.iu.marks.join.isSome ∧ m.admission s.iu.marks s.ct.heard = none then
          (if s.sc.refusedJoins < 255 then s.sc.refusedJoins + 1 else 255) else s.sc.refusedJoins } ∧
      t.du = (s.ageHalf c).du ∧
      (s.iu.certainty = some .synced → t.iu.certainty = some .synced) ∧
      (s.iu.certainty = some .doubtful → s.ct.summarySeen = true → t.iu.certainty = some .doubtful) ∧
      (s.iu.certainty = some .doubtful → s.ct.summarySeen = false →
        ((∀ i ∈ m.ids, IdSet.has s.ct.heard i = true → c.id ≤ i) → t.iu.certainty = some .synced) ∧
        ((∃ i ∈ m.ids, IdSet.has s.ct.heard i = true ∧ i < c.id) → t.iu.certainty = some .doubtful)) ∧
      (∀ k, s.ct.mark = some k → e < k.instant + c.period * unitsPerMicrosecond →
        t.ct.state = .interval ∧ t.ct.nextOpening = some (k.instant + c.period * unitsPerMicrosecond) ∧ t.ct.heard = s.ct.heard) ∧
      (∀ k, s.ct.mark = some k → k.instant + c.period * unitsPerMicrosecond ≤ e →
        t.ct.state = .slots ∧ t.ct.mark = some { instant := e, provisional := true } ∧ t.ct.heard = 0 ∧
          t.ct.opensWith c m' s.sc.departing e true ∧ (m'.position c.id = some 0 → s.ti.tx = .idle → s.assembles c e t)) ∧
      (s.ct.mark = none → t.ct.state = .interval ∧ t.ct.nextOpening = none) ∧ t.sq = s.sq ∧ t.rm = s.rm ∧ t.rc = s.rc ∧
      (m'.epoch ≠ m.epoch → t.flag .roster = true) ∧
      (∀ change, m.haltChange s.iu.marks s.ct.heard = change →
        (change = .none → t.halt = s.halt) ∧
          (change = .complete → t.halt = { outcome := .complete, unacked := 0 } ∧ t.flag .halted = true) ∧
          (∀ ids, change = .incomplete ids → t.halt = { outcome := .incomplete, unacked := ids } ∧ t.flag .halted = true) ∧
          (change = .resumed → t.halt = { outcome := .none, unacked := 0 } ∧ t.flag .resumed = true))

/-- JOIN_WINDOW_TIMER_EXPIRY at a MEMBER whose entry is removed: by its own LEAVE to IDLE with reason LEFT, by the missed-slot rule to LISTEN with reason EVICTED and the holdoff timer started; either way with the effects of R81 on the image, the pending set, the outgoing queue, the conversions in flight and the halt report, with the refused JOIN counted (R72, log 22) and the FILLING half aged. -/
def Obligations.RemovalAtTheCycleEndDeparts : Prop :=
  ∀ (s : State) (c : StationConfig) (m : Image) (e : Instant), s.cfg = some c → s.sc.state = .member → s.iu.image = some m →
    s.ct.state = .window → s.ct.window = some e → s.ti.tx ≠ .armed →
    (m.cycleEnd s.iu.marks s.ct.heard s.ct.plan c.digest c.plan.length).lists c.id = false →
    ∃ t, exec .joinWindowTimerExpiry s = .next t ∧ t.iu = .empty ∧ t.cb.isEmpty ∧ t.cb.serial = s.cb.serial ∧ t.rt.queue = [] ∧
      t.rt.inFlight = [] ∧ t.rt.gapPending = true ∧ t.sq.completion = s.sq.completion ∧
      t.sq.inFlight = s.sq.inFlight.map (fun v => { v with discard := true }) ∧ t.rm = s.rm ∧
      t.halt = { outcome := .none, unacked := 0 } ∧ t.flag .removed = true ∧ t.sc.departing = false ∧
      t.sc.refusedJoins =
        (if s.iu.marks.join.isSome ∧ m.admission s.iu.marks s.ct.heard = none then
          (if s.sc.refusedJoins < 255 then s.sc.refusedJoins + 1 else 255) else s.sc.refusedJoins) ∧
      t.du = (s.ageHalf c).du ∧
      (IdSet.has s.iu.marks.leavers c.id = true → t.sc.state = .idle ∧ t.sc.removal = some .left ∧ t.sc.founding = none ∧
        t.sc.holdoff = s.sc.holdoff ∧ t.ct = .stopped ∧ t.ti.tx = .idle ∧ t.ti.receiving = none) ∧
      (IdSet.has s.iu.marks.leavers c.id = false → t.sc.state = .listen ∧ t.sc.removal = some .evicted ∧
        t.sc.holdoff = some (e + 16 * (c.period * unitsPerMicrosecond)) ∧
        t.sc.founding = some (e + (4 + c.id.val) * (c.period * unitsPerMicrosecond)) ∧ t.ct.state = .untimed ∧
        t.sc.joiningWanted = s.sc.joiningWanted ∧ t.ti = s.ti)

/-- JOIN_WINDOW_TIMER_EXPIRY at a LISTEN or JOINING station (R63, R66, R74, R75, R76): the tracked image has its cycle end, unless its removals leave no entry; then it is discarded whatever JOIN would be admitted, and the CT is UNTIMED. A cycle that overran is followed at once by the next, with the type and phase plan of the tracked image (R23, R35). A JOINING station whose entry is not there after it, or whose image is discarded, has failed its attempt: LISTEN with one more attempt, FAULT(JOIN_FAILED) at the eighth, IDLE and no attempt when departing. -/
def Obligations.TrackedImageTakesItsCycleEnd : Prop :=
  ∀ (s : State) (c : StationConfig) (m : Image) (e : Instant), s.cfg = some c →
    (s.sc.state = .listen ∨ s.sc.state = .joining) → s.iu.image = some m → s.ct.state = .window → s.ct.window = some e →
    let m' := m.cycleEnd s.iu.marks s.ct.heard s.ct.plan c.digest c.plan.length
    let emptied := rosterKept m.roster s.iu.marks s.ct.heard = []
    let failed := s.sc.state = .joining ∧ (emptied ∨ m'.lists c.id = false)
    ∃ t, exec .joinWindowTimerExpiry s = .next t ∧ t.du = (s.ageHalf c).du ∧ t.sq = s.sq ∧ t.rm = s.rm ∧
      t.rc = s.rc ∧ (¬ failed → t.sc = s.sc ∧ t.cp = (s.ageHalf c).cp) ∧
      (failed → s.sc.departing = false → s.sc.attempts < 7 →
        t.sc = { s.sc with state := .listen, attempts := s.sc.attempts + 1,
                           founding := some (e + (4 + c.id.val) * (c.period * unitsPerMicrosecond)) }) ∧
      (failed → s.sc.departing = false → 7 ≤ s.sc.attempts →
        t.sc.state = .fault ∧ t.sc.faultReason = some .joinFailed ∧ t.sc.attempts = s.sc.attempts + 1 ∧ t.flag .fault = true) ∧
      (failed → s.sc.departing = true →
        t.sc.state = .idle ∧ t.sc.departing = false ∧ t.sc.attempts = s.sc.attempts ∧ t.sc.founding = none) ∧
      (failed → (s.sc.departing = true ∨ 7 ≤ s.sc.attempts) → t.iu = .empty ∧ t.ct = .stopped ∧ t.ti.tx = .idle) ∧
      ((¬ failed ∨ s.sc.departing = false ∧ s.sc.attempts < 7) →
        (emptied → t.iu = .empty ∧ t.ct = { CycleTimer.stopped with state := .untimed } ∧ t.ti = s.ti) ∧
        (¬ emptied → t.iu = { s.iu with image := some m', marks := .empty } ∧
          (∀ k, s.ct.mark = some k → e < k.instant + c.period * unitsPerMicrosecond →
            t.ct = { s.ct with state := .interval, silence := none, window := none,
                               nextOpening := some (k.instant + c.period * unitsPerMicrosecond) }) ∧
          (∀ k, s.ct.mark = some k → k.instant + c.period * unitsPerMicrosecond ≤ e →
            t.ct.opensWith c m' s.sc.departing e true) ∧
          (s.ct.mark = none → t.ct = { s.ct with state := .interval, silence := none, window := none, nextOpening := none }) ∧
          t.ti = s.ti))

/-! ### Trunk frames -/

/-- FRAME_START: the silence or join-window timer stops, the first frame start of a cycle fixes the mark and moves the next opening, one in INTERVAL opens the cycle early with a fixed mark, its type and its phase plan (R21, R35, R36, R78) and the assembly of the BEAT of the member at position 0 (R48; log 32), and a LISTEN station's founding timer restarts. -/
def Obligations.FrameStartRetimesTheCycle : Prop :=
  ∀ (s : State) (c : StationConfig) (now : Instant), s.cfg = some c → s.receiverOn = true → s.ti.receiving = none →
    ∃ t, exec (.frameStart now) s = .next t ∧ t.ti.receiving = some (s.ct.state == .window) ∧
      (s.sc.state = .listen → t.sc.founding = some (now + (4 + c.id.val) * (c.period * unitsPerMicrosecond))) ∧
      (s.sc.state ≠ .listen → t.sc = s.sc) ∧
      ((s.ct.state = .slots ∨ s.ct.state = .window) → t.ct.state = s.ct.state ∧ t.ct.pointer = s.ct.pointer ∧
        t.ct.heard = s.ct.heard ∧ t.ct.plan = s.ct.plan ∧ t.ct.nextPhase = s.ct.nextPhase ∧
        (s.ct.state = .slots → t.ct.silence = none) ∧ (s.ct.state = .window → t.ct.window = none) ∧
        (∀ k, s.ct.mark = some k → k.provisional = true → t.ct.mark = some { instant := now, provisional := false } ∧
          t.ct.nextOpening = some (now + c.period * unitsPerMicrosecond)) ∧
        (∀ k, s.ct.mark = some k → k.provisional = false → t.ct.mark = s.ct.mark ∧ t.ct.nextOpening = s.ct.nextOpening) ∧
        (s.ct.mark = none → t.ct.mark = none ∧ t.ct.nextOpening = s.ct.nextOpening) ∧ t.ti.tx = s.ti.tx ∧ t.rt = s.rt ∧ t.cb = s.cb) ∧
      (s.ct.state = .interval → s.iu.image.isSome → t.ct.state = .slots ∧ t.ct.pointer = 0 ∧ t.ct.heard = 0 ∧
        t.ct.summarySeen = false ∧ t.ct.silence = none ∧ t.ct.mark = some { instant := now, provisional := false } ∧
        t.ct.nextOpening = some (now + c.period * unitsPerMicrosecond) ∧
        (∀ m, s.iu.image = some m → t.ct.opensWith c m s.sc.departing now false) ∧
        (∀ m, s.sc.state = .member → s.iu.image = some m → m.position c.id = some 0 → s.ti.tx = .idle → s.assembles c now t)) ∧
      (s.ct.state = .untimed → t.ct = s.ct) ∧ t.iu = s.iu ∧ t.du = s.du ∧ t.sq = s.sq ∧ t.cp = s.cp

/-- FRAME_BEGIN: an ARMED transmitter begins within its guard, the instant of its expiry included (log 31), and a MEMBER enters its own id in its heard set; nothing else changes. ARBITRATION_LOSS, READBACK_MISMATCH (from SENDING, and by log 4 from ARBITRATING), START_GUARD_EXPIRY and ABORT_MARK_END: when the records of a MEMBER's BEAT return to the queue head, when the station goes DOUBTFUL, and what the mismatch does to clash-suspect; a JOIN that fails so changes no station state and counts no attempt (R69), and none of these changes the pending set. The end of an abort mark that a second clash began takes the station to FAULT(ID_CLASH) instead (R46, R85): a MEMBER with the effects of R81, its pending set discarded, a LISTEN station with its JOIN given up. At the end of the abort mark of its own JOIN a LISTEN station with a LEAVE waiting enters IDLE (R62). -/
def Obligations.FrameBeginsOrFails : Prop :=
  (∀ (s : State) (c : StationConfig) (now guard : Instant), s.cfg = some c → s.ti.tx = .armed → s.ti.startGuard = some guard →
    s.ti.receiving = none → now ≤ guard →
    (s.sc.state = .member →
        exec (.frameBegin now) s =
          .next ((s.setTi { s.ti with tx := .arbitrating, startGuard := none }).setCt
            { s.ct with heard := s.ct.heard ||| 1#16 <<< c.id.val })) ∧
      (s.sc.state ≠ .member → exec (.frameBegin now) s = .next (s.setTi { s.ti with tx := .arbitrating, startGuard := none }))) ∧
    ∀ (s : State) (recessive : Bool),
      let back : RecordTransport := { s.rt with queue := s.rt.inFlight ++ s.rt.queue, inFlight := [] }
      let freed : TrunkInterface := { s.ti with tx := .idle, frame := none, startGuard := none, clashAfterAbort := false }
      let aborting : TrunkInterface :=
        { s.ti with tx := .aborting, clashSuspect := s.ti.clashSuspect || recessive,
                    clashAfterAbort := s.ti.clashSuspect && recessive }
      (s.ti.tx = .armed → exec .startGuardExpiry s = .next ((s.setTi freed).setRt back)) ∧
        (s.ti.tx = .aborting → s.ti.clashAfterAbort = false → s.sc.deferredLeave = false →
          exec .abortMarkEnd s = .next ((s.setTi freed).setRt back)) ∧
        ((∃ digest, s.ti.frame = some (.join digest)) →
          (s.ti.tx = .arbitrating → exec .arbitrationLoss s = .next ((s.setTi freed).setRt back)) ∧
          ((s.ti.tx = .arbitrating ∨ s.ti.tx = .sending) → exec (.readbackMismatch recessive) s = .next (s.setTi aborting))) ∧
        (s.sc.state = .member → (∃ d e y p i k m, s.ti.frame = some (.beat d e y p i k m)) →
          (s.ti.tx = .arbitrating →
            exec .arbitrationLoss s =
              .next (((s.setTi freed).setRt back).setIu { s.iu with certainty := some .doubtful })) ∧
          ((s.ti.tx = .arbitrating ∨ s.ti.tx = .sending) →
            exec (.readbackMismatch recessive) s =
              .next ((s.setTi aborting).setIu { s.iu with certainty := some .doubtful })) ∧
          (s.ti.tx = .aborting → s.ti.clashAfterAbort = true →
            ∃ t, exec .abortMarkEnd s = .next t ∧ t.sc.state = .fault ∧ t.sc.faultReason = some .idClash ∧ t.rt.queue = [] ∧
              t.rt.inFlight = [] ∧ t.rt.gapPending = true ∧ t.cb.isEmpty ∧ t.ti.tx = .idle ∧ t.iu.image = none ∧
              t.flag .fault = true ∧ t.du = s.du)) ∧
        (s.sc.state ≠ .member → s.ti.tx = .aborting → s.ti.clashAfterAbort = true →
          ∃ t, exec .abortMarkEnd s = .next t ∧ t.sc.state = .fault ∧ t.sc.faultReason = some .idClash ∧ t.sc.founding = none ∧
            t.sc.holdoff = none ∧ t.iu = .empty ∧ t.ct = .stopped ∧ t.ti = { freed with receiving := none } ∧
            t.flag .fault = true ∧ t.rt = back ∧ t.cb = s.cb ∧ t.sq = s.sq ∧ t.halt = s.halt ∧ t.du = s.du) ∧
        (s.sc.state = .listen → s.ti.tx = .aborting → s.ti.clashAfterAbort = false → s.sc.deferredLeave = true →
          ∃ t, exec .abortMarkEnd s = .next t ∧
            t.sc = { s.sc with state := .idle, joiningWanted := false, departing := false, founding := none, deferredLeave := false } ∧
            t.iu = .empty ∧ t.ct = .stopped ∧ t.ti = { freed with receiving := none } ∧ t.rt = back ∧ t.cb = s.cb ∧ t.sq = s.sq ∧
            t.halt = s.halt ∧ t.cp = s.cp ∧ t.du = s.du)

/-- What becomes of an ARMED BEAT at the end of a frame in the slots of a MEMBER (R49, R50, R150). While the station is MEMBER and the pointer stands at its own position, the header is that of the image, DOUBT, items and summary follow certainty and R9 as the frame end leaves them, and records and guard stay: so at a frame that is not clean (the station is DOUBTFUL then), a FOREIGN one, an INCONSISTENT one of no listed sender, and a listed sender's BEAT at a position before the pointer. Otherwise it is abandoned, its records back at the queue head and the pending set as it was: so where a listed sender's BEAT carries the pointer past the own slot, and where an adoption does, with the plan and phases of R37 (logs 20, 21, 33). An adoption after whose sender the own slot comes begins that slot again: by log 23 the BEAT is assembled anew there, its records returned to the queue head first and the start guard running from the new slot, and of a LEAVE or HALT_ACK log 32 says what State.assembles says. A header that disagrees with the adopted image makes the station DOUBTFUL at another epoch or cycle number (log 41), or leaves the items (R55). A station that leaves MEMBER by the summary of the frame discards the records. -/
def Obligations.ArmedBeatIsBroughtUpToDate : Prop :=
  ∀ (s : State) (c : StationConfig) (m : Image) (now : Instant) (line : List Bool) (doubt : Bool) (epoch cycle : Word16)
    (position : Fin 16) (items taken : List Item) (summary : Option Image), s.cfg = some c → s.sc.state = .member →
    s.sc.deferredLeave = false → s.iu.image = some m → s.ct.state = .slots → s.ti.receiving = some false → s.ti.tx = .armed →
    s.ti.frame = some (.beat doubt epoch cycle position items taken summary) →
    let ignored := fun x : Image =>
      x.lists c.id = true ∧ s.iu.certainty = some .synced ∨
        x.lists c.id = true ∧ x.digest ≠ c.digest ∨ x.lists c.id = false ∧ foreignLarger m.ids x.ids = false
    let foreign := ∃ b : Beat, receiveLine line = .whole (.beat b true) true ∧ b.structureOk c true = true ∧
      b.sender ≠ c.id ∧ m.lists b.sender = false ∧ ∀ x, b.summary = some x → ignored x ∨ x.lists c.id = true ∧ x.lists b.sender = false
    let inconsistent := (∃ sender digest, receiveLine line = .whole (.join sender digest) true ∧ sender ≠ c.id) ∨
      ∃ b inRange, receiveLine line = .whole (.beat b inRange) true ∧ b.structureOk c inRange = false ∧ b.sender ≠ c.id ∧
        m.lists b.sender = false
    let broken := receiveLine line = .cutShort ∨ ∃ f, receiveLine line = .whole f false
    let updated : State → Prop := fun t => t.rt = s.rt ∧ t.ti.tx = .armed ∧ t.ti.startGuard = s.ti.startGuard ∧
      ∃ m', t.iu.image = some m' ∧
        t.ti.frame = some (.beat (t.iu.certainty != some .synced) m'.epoch m'.cycle (Fin.ofNat 16 s.ct.pointer)
          (if t.iu.certainty = some .synced then taken else []) taken
          (if t.iu.certainty = some .synced ∧ t.ct.summarySeen = false then t.iu.copy else none))
    let abandoned : State → Prop := fun t => t.ti.tx = .idle ∧ t.ti.frame = none ∧ t.ti.startGuard = none ∧
      t.rt = { s.rt with queue := s.rt.inFlight ++ s.rt.queue, inFlight := [] }
    ((foreign ∨ inconsistent ∨ broken) →
      ∃ t, exec (.frameEnd now line) s = .next t ∧ t.ct = { s.ct with silence := some (now + c.silence * unitsPerMicrosecond) } ∧
        (broken → t.iu = { s.iu with certainty := some .doubtful }) ∧ (¬ broken → t.iu = s.iu) ∧ t.cb = s.cb ∧
        (s.ct.position = some s.ct.pointer → updated t) ∧ (s.ct.position ≠ some s.ct.pointer → abandoned t) ∧ t.sc = s.sc ∧
        t.du = s.du ∧ t.sq = s.sq ∧ t.rm = s.rm) ∧
    (∀ b inRange p, receiveLine line = .whole (.beat b inRange) true → b.sender ≠ c.id → m.position b.sender = some p →
      s.ct.position = some s.ct.pointer →
      (b.structureOk c inRange = false ∨ b.summary = none ∨
        ∃ x, b.summary = some x ∧ (x.digest ≠ c.digest ∨ s.iu.certainty = some .synced ∧ s.iu.copy = some x)) →
      ∃ t, exec (.frameEnd now line) s = .next t ∧ t.ct.heard = IdSet.add s.ct.heard b.sender ∧
        (s.ct.pointer ≤ p → t.ct.pointer = p + 1 ∧ abandoned t) ∧ (p < s.ct.pointer → t.ct.pointer = s.ct.pointer ∧ updated t) ∧
        t.cb = s.cb ∧ t.sc = s.sc ∧ t.sq = s.sq ∧ t.rm = s.rm) ∧
    ∀ b x q, receiveLine line = .whole (.beat b true) true → b.structureOk c true = true → b.sender ≠ c.id →
      b.summary = some x → x.position b.sender = some q →
      (x.lists c.id = true → x.digest = c.digest →
        (m.lists b.sender = true ∧ (s.iu.certainty ≠ some .synced ∨ s.iu.copy ≠ some x) ∨
          m.lists b.sender = false ∧ s.iu.certainty = some .doubtful) →
        ∃ t, exec (.frameEnd now line) s = .next t ∧ t.sc = s.sc ∧ t.iu.copy = some x ∧
          t.iu = ((s.setIu { image := some x, copy := some x, certainty := some .synced, marks := .empty }).afterHeader c.id b x q).iu ∧
          t.ti.inconsistent = (s.ti.counts b x q).inconsistent ∧
          t.ct.pointer = q + 1 ∧ t.ct.refixed s.ct c x now s.ct.suppressed ∧ t.ct.heard = IdSet.add s.ct.heard b.sender ∧
          (x.position c.id = some (q + 1) → s.assembles c now t) ∧
          (x.position c.id ≠ some (q + 1) → abandoned t ∧ t.cb = s.cb)) ∧
      (x.lists c.id = false →
        (m.lists b.sender = true ∧ x.digest = c.digest ∧ (s.iu.certainty ≠ some .synced ∨ s.iu.copy ≠ some x) ∨
          m.lists b.sender = false ∧ foreignLarger m.ids x.ids = true) →
        ∃ t, exec (.frameEnd now line) s = .next t ∧ t.sc.state ≠ .member ∧ t.rt = { queue := [], inFlight := [], gapPending := true } ∧
          (∀ d e y p k l z, t.ti.frame ≠ some (.beat d e y p k l z)) ∧
          (q + 1 < x.roster.length → t.ti.tx = .idle ∧ t.ti.frame = none ∧ t.ti.startGuard = none))

/-- The own BEAT ends with a matching readback in the own slot, from SENDING or, by log 4, from ARBITRATING, recognised by its levels (log 11): the transmitter is IDLE, clash-suspect clear, the carried records are gone, the carried items are gone but for a HALT_REQ or RESUME_REQ posted since the assembly (R47, log 25), the serial counter counts a carried request, the own id is heard, a carried summary sets summary-seen, and the pointer passes the own position. The station applies the items to its own image (R7, R47), and its own records go through its acceptance windows (R154). -/
def Obligations.OwnBeatEndsWithMatchingReadback : Prop :=
  ∀ (s : State) (c : StationConfig) (m : Image) (b : Beat) (now : Instant) (line : List Bool) (p : Nat), s.cfg = some c →
    s.sc.state = .member → s.sc.deferredLeave = false → s.iu.image = some m → s.ct.state = .slots →
    s.ti.receiving = some false → (s.ti.tx = .arbitrating ∨ s.ti.tx = .sending) → s.ownBeat c = some b →
    line = lineOf (withCrc (beatContent b)) → m.position c.id = some p → s.ct.position = some p → s.ct.pointer = p →
    ∃ t, exec (.frameEnd now line) s = .next t ∧ t.ti.tx = .idle ∧ t.ti.frame = none ∧ t.ti.clashSuspect = false ∧
      t.ti.errors = s.ti.errors ∧ t.ti.foreign = s.ti.foreign ∧ t.ti.inconsistent = s.ti.inconsistent ∧
      t.rt = { s.rt with inFlight := [] } ∧ t.cb = s.cb.sent b.items ∧ t.iu = (s.applyItems c.id c.id b.items).iu ∧
      t.iu.certainty = s.iu.certainty ∧ t.du = ((b.records.filter (accepts c c.id)).foldl (State.deliver c.id) s).du ∧
      IdSet.has t.ct.heard c.id = true ∧ (b.summary.isSome → t.ct.summarySeen = true) ∧ t.ct.pointer = p + 1 ∧
      t.sc = s.sc ∧ t.sq = s.sq ∧ t.rm = s.rm ∧
      (Item.haltAck ∈ b.items → t.cb.haltAck = false) ∧ (Item.haltAck ∉ b.items → t.cb.haltAck = s.cb.haltAck) ∧
      (Item.leave ∈ b.items → t.cb.leave = false) ∧ (Item.leave ∉ b.items → t.cb.leave = s.cb.leave) ∧
      (Item.haltReq ∈ b.items → s.cb.reposted = false → t.cb.haltReq = false) ∧
      ((Item.haltReq ∉ b.items ∨ s.cb.reposted = true) → t.cb.haltReq = s.cb.haltReq) ∧
      (Item.resumeReq ∈ b.items → s.cb.reposted = false → t.cb.resumeReq = false) ∧
      ((Item.resumeReq ∉ b.items ∨ s.cb.reposted = true) → t.cb.resumeReq = s.cb.resumeReq) ∧
      ((∃ q n k, Item.priorityReq q n k ∈ b.items) → t.cb.request = none ∧ t.cb.serial = s.cb.serial + 1) ∧
      ((∀ q n k, Item.priorityReq q n k ∉ b.items) → t.cb.request = s.cb.request ∧ t.cb.serial = s.cb.serial)

/-- A clean BEAT without a summary ends in the slots of a LISTEN, JOINING or MEMBER station whose image does not list its sender: FOREIGN, counted and flagged, with nothing taken from it and the silence timer restarted. At a LISTEN station that holds no image it is unplaced: it raises no count and no flag and changes nothing but that the receiver leaves the frame (R54). A clean frame that carries the own id, BEAT or JOIN, whatever else it holds and wherever in the cycle it ends, takes a LISTEN, JOINING or MEMBER station whose transmitter is IDLE or ARMED to FAULT(ID_CLASH) (R57, R85), a MEMBER with the effects of R81; by log 18 it raises none of the three counts. -/
def Obligations.ForeignBeatAndIdClash : Prop :=
  (∀ (s : State) (c : StationConfig) (b : Beat) (now : Instant) (line : List Bool), s.cfg = some c → s.receiverOn = true →
    s.sc.deferredLeave = false → s.ti.receiving = some false → s.ti.tx = .idle →
    receiveLine line = .whole (.beat b true) true → b.structureOk c true = true → b.summary = none → b.sender ≠ c.id →
    (∀ m, s.ct.state = .slots → s.iu.image = some m → m.lists b.sender = false →
      exec (.frameEnd now line) s =
        .next (((s.setTi { s.ti with receiving := none, foreign := if s.ti.foreign < 255 then s.ti.foreign + 1 else 255 }).setCp
          { s.cp with flags := s.cp.flags ||| 0x0100 }).setCt
          { s.ct with silence := some (now + c.silence * unitsPerMicrosecond) })) ∧
      (s.ct.state = .untimed → s.iu.image = none → exec (.frameEnd now line) s = .next (s.setTi { s.ti with receiving := none }))) ∧
    ∀ (s : State) (c : StationConfig) (now : Instant) (line : List Bool) (inWindow : Bool), s.cfg = some c →
      (s.sc.state = .listen ∨ s.sc.state = .joining ∨ s.sc.state = .member) → s.ti.receiving = some inWindow →
      (s.ti.tx = .idle ∨ s.ti.tx = .armed) →
      ((∃ b inRange, receiveLine line = .whole (.beat b inRange) true ∧ b.sender = c.id) ∨
        ∃ digest, receiveLine line = .whole (.join c.id digest) true) →
      ∃ t, exec (.frameEnd now line) s = .next t ∧ t.sc.state = .fault ∧ t.sc.faultReason = some .idClash ∧
        t.sc.founding = none ∧ t.sc.holdoff = none ∧ t.flag .fault = true ∧ t.iu = .empty ∧ t.ct = .stopped ∧
        t.ti.tx = .idle ∧ t.ti.frame = none ∧ t.ti.receiving = none ∧ t.ti.errors = s.ti.errors ∧
        t.ti.foreign = s.ti.foreign ∧ t.ti.inconsistent = s.ti.inconsistent ∧ t.du = s.du ∧ t.rm = s.rm ∧
        (s.sc.state = .member → t.cb.isEmpty ∧ t.cb.serial = s.cb.serial ∧
          t.rt = { queue := [], inFlight := [], gapPending := true } ∧
          t.sq = { s.sq with inFlight := s.sq.inFlight.map (fun v => { v with discard := true }) } ∧
          t.halt = { outcome := .none, unacked := 0 }) ∧
        (s.sc.state ≠ .member → t.cb = s.cb ∧ t.rt = s.rt ∧ t.sq = s.sq ∧ t.halt = s.halt)

/-- A clean BEAT of a listed sender, without a summary, whose header agrees, ends in the slots of a LISTEN, JOINING or MEMBER station: its items are applied to the image, a tracked one too, its sender is heard, the pointer passes the sender as SLOT_PASSES would pass it there (the next slot, the own one with its assembly, or the join window with its judgment), no count grows, and its accepted records are delivered in frame order, but not at a station that the judgment took to FAULT. -/
def Obligations.CleanBeatIsTaken : Prop :=
  ∀ (s : State) (c : StationConfig) (m : Image) (b : Beat) (now : Instant) (line : List Bool) (p : Nat), s.cfg = some c →
    s.receiverOn = true → s.sc.deferredLeave = false → s.iu.image = some m → s.ct.state = .slots →
    s.ti.receiving = some false → s.ti.tx = .idle → receiveLine line = .whole (.beat b true) true →
    b.structureOk c true = true → b.summary = none → b.sender ≠ c.id → m.position b.sender = some p → b.position.val = p →
    b.epoch = m.epoch → b.cycle = m.cycle → s.ct.pointer ≤ p →
    let delivered := ((b.records.filter (accepts c b.sender)).foldl (State.deliver b.sender) s).du
    s.settlesSlotWith now line b.sender (b.records.filter (accepts c b.sender))
        (((s.applyItems c.id b.sender b.items).setTi { s.ti with receiving := none }).setCt
          { s.ct with heard := IdSet.add s.ct.heard b.sender, pointer := p, silence := some now }) ∧
      ∃ t, exec (.frameEnd now line) s = .next t ∧ t.ti.errors = s.ti.errors ∧ t.ti.foreign = s.ti.foreign ∧
        t.ti.inconsistent = s.ti.inconsistent ∧ (t.sc.state = .fault → s.sc.state = .listen ∧ t.du = s.du) ∧
        (t.sc.state ≠ .fault → IdSet.has t.ct.heard b.sender = true ∧ t.ct.pointer = p + 1 ∧
          t.iu = (s.applyItems c.id b.sender b.items).iu ∧ t.iu.certainty = s.iu.certainty ∧ t.du = delivered ∧
          (s.sc.state ≠ .listen → t.sc = s.sc) ∧
          (p + 1 < s.ct.members → t.ct.state = .slots ∧ t.sc = s.sc) ∧ (s.ct.members ≤ p + 1 → t.ct.state = .window))

/-- A frame that is not clean ends at a LISTEN, JOINING or MEMBER station outside the join window, in the slots or while the CT is UNTIMED: receive error counted, RXERROR set, a MEMBER DOUBTFUL, a tracked image as it was, the silence timer of the slots restarted for the same slot; its own frame broken off by an abort mark included (R52). INCONSISTENT frames (R53, R55, R56): each is counted. A BEAT of unsound structure gives nothing but, from a listed sender, its heard id and its slot. One whose header disagrees gives its records and no items, and makes a MEMBER DOUBTFUL unless its stated position alone is wrong. A clean JOIN that started outside the window sets no mark and restarts the silence timer. Where a listed sender's slot is settled, the pointer moves on as SLOT_PASSES moves it. -/
def Obligations.ErroneousAndInconsistentFramesAreCounted : Prop :=
  ∀ (s : State) (c : StationConfig) (now : Instant) (line : List Bool), s.cfg = some c → s.receiverOn = true →
    s.sc.deferredLeave = false → (s.ct.state = .slots ∨ s.ct.state = .untimed) → (s.ti.tx = .idle ∨ s.ti.tx = .aborting) →
    let saturated := fun n => if n < 255 then n + 1 else 255
    let counted : TrunkInterface := { s.ti with receiving := none, inconsistent := saturated s.ti.inconsistent }
    let restarted : CycleTimer :=
      if s.ct.state = .slots then { s.ct with silence := some (now + c.silence * unitsPerMicrosecond) } else s.ct
    let doubted : ImageUnit := if s.sc.state = .member then { s.iu with certainty := some .doubtful } else s.iu
    let heardAt := fun (i : StationId) (p : Nat) =>
      { s.ct with heard := IdSet.add s.ct.heard i, pointer := p, silence := some now }
    (s.ti.receiving.isSome → (receiveLine line = .cutShort ∨ ∃ f, receiveLine line = .whole f false) →
      exec (.frameEnd now line) s =
        .next ((((s.setTi { s.ti with receiving := none, errors := saturated s.ti.errors }).setCp
          { s.cp with flags := s.cp.flags ||| 0x0080 }).setIu doubted).setCt restarted)) ∧
    (s.ti.receiving = some false →
      (∀ b inRange, receiveLine line = .whole (.beat b inRange) true → b.sender ≠ c.id → b.structureOk c inRange = false →
        ((∀ m, s.iu.image = some m → m.lists b.sender = false) →
          exec (.frameEnd now line) s = .next ((s.setTi counted).setCt restarted)) ∧
        (∀ m p, s.ct.state = .slots → s.iu.image = some m → m.position b.sender = some p →
          (p < s.ct.pointer → exec (.frameEnd now line) s =
            .next ((s.setTi counted).setCt { restarted with heard := IdSet.add s.ct.heard b.sender })) ∧
          (s.ct.pointer ≤ p → s.settlesSlotWith now line b.sender [] ((s.setTi counted).setCt (heardAt b.sender p))))) ∧
      (∀ b m p, receiveLine line = .whole (.beat b true) true → b.sender ≠ c.id → b.structureOk c true = true →
        b.summary = none → s.ct.state = .slots → s.iu.image = some m → m.position b.sender = some p →
        let wrong := (b.epoch ≠ m.epoch ∨ b.cycle ≠ m.cycle ∨ b.position.val < s.ct.pointer)
        let judged : ImageUnit := { s.iu with certainty := if wrong then doubted.certainty else s.iu.certainty }
        (wrong ∨ b.position.val ≠ p) →
        (p < s.ct.pointer → exec (.frameEnd now line) s =
          .next ((b.records.filter (accepts c b.sender)).foldl (State.deliver b.sender) (((s.setTi counted).setIu judged).setCt
            { restarted with heard := IdSet.add s.ct.heard b.sender }))) ∧
        (s.ct.pointer ≤ p →
          s.settlesSlotWith now line b.sender (b.records.filter (accepts c b.sender))
            (((s.setTi counted).setIu judged).setCt (heardAt b.sender p)))) ∧
      (∀ sender digest, receiveLine line = .whole (.join sender digest) true → sender ≠ c.id →
        exec (.frameEnd now line) s = .next ((s.setTi counted).setCt restarted)))

/-- A summary of a listed sender at a MEMBER (R10): equal to the cycle-start copy of a SYNCED station it sets summary-seen, leaves copy, plan and phases, and the pointer moves past the sender by R26; otherwise, if it lists the station, it is adopted: it becomes image and copy, the station is SYNCED with no marks, the pointer passes the sender, mark, next opening and heard set stay, the phase plan is that of the summary and the phases are reckoned anew (R37, R94; the departing flag by log 20, the phases by logs 21 and 33), and what it changes is reported: DIVERGED, ROSTER at another epoch, DRAINING at a gather, REFUSED for a lost own request, HALTED and RESUMED with the halt outcome (R16, R127, R140, R173). The header is held against the image after the summary (R55), but not against the pointer (log 15): another epoch or cycle number makes the frame INCONSISTENT and the station DOUBTFUL (log 41), another position makes it INCONSISTENT alone; otherwise its items are applied to that image. Its accepted records are delivered. -/
def Obligations.MemberConfirmsOrAdoptsSummary : Prop :=
  ∀ (s : State) (c : StationConfig) (m x : Image) (b : Beat) (now : Instant) (line : List Bool), s.cfg = some c →
    s.sc.state = .member → s.sc.deferredLeave = false → s.iu.image = some m → s.ct.state = .slots →
    s.ti.receiving = some false → s.ti.tx = .idle → receiveLine line = .whole (.beat b true) true →
    b.structureOk c true = true → b.summary = some x → b.sender ≠ c.id → x.digest = c.digest →
    (∀ p, s.iu.certainty = some .synced → s.iu.copy = some x → m.position b.sender = some p →
        ∃ t, exec (.frameEnd now line) s = .next t ∧ t.iu = (s.afterHeader c.id b m p).iu ∧
          t.ti.inconsistent = (s.ti.counts b m p).inconsistent ∧ t.ti.foreign = s.ti.foreign ∧ t.ct.summarySeen = true ∧
          t.ct.plan = s.ct.plan ∧ t.ct.mark = s.ct.mark ∧ t.ct.nextPhase = s.ct.nextPhase ∧ t.ct.phaseTaken = s.ct.phaseTaken ∧
          t.ct.heard = IdSet.add s.ct.heard b.sender ∧ (s.ct.pointer ≤ p → t.ct.pointer = p + 1) ∧
          (p < s.ct.pointer → t.ct.pointer = s.ct.pointer ∧ t.ct.silence = some (now + c.silence * unitsPerMicrosecond)) ∧
          t.du = ((b.records.filter (accepts c b.sender)).foldl (State.deliver b.sender) s).du ∧ t.sc = s.sc ∧ t.halt = s.halt) ∧
      ∀ q, m.lists b.sender = true → (s.iu.certainty ≠ some .synced ∨ s.iu.copy ≠ some x) → x.lists c.id = true →
        x.position b.sender = some q →
        ∃ t, exec (.frameEnd now line) s = .next t ∧
          t.iu = ((s.setIu { image := some x, copy := some x, certainty := some .synced, marks := .empty }).afterHeader c.id b x q).iu ∧
          t.iu.copy = some x ∧ (b.epoch = x.epoch → b.cycle = x.cycle → t.iu.certainty = some .synced) ∧
          t.ti.inconsistent = (s.ti.counts b x q).inconsistent ∧ t.ti.foreign = s.ti.foreign ∧
          t.ct.refixed s.ct c x now s.ct.suppressed ∧ t.ct.heard = IdSet.add s.ct.heard b.sender ∧ t.ct.pointer = q + 1 ∧
          t.du = ((b.records.filter (accepts c b.sender)).foldl (State.deliver b.sender) s).du ∧ t.sc = s.sc ∧
          t.reportsAdoption s c.id x

/-- A summary of a listed sender at a MEMBER that does not confirm and is not kept. With another plan digest (R4) it is not adopted: the frame is INCONSISTENT, its items are left, its records are handed on, and the station is DOUBTFUL. With the own digest and without the station in it (R83) it is adopted as tracked image: LISTEN with reason EVICTED, the holdoff started, the pointer past the sender, mark, next opening and heard set kept and the plan that of the summary (R37; phases by logs 21 and 33), the frame INCONSISTENT and its items left where its header disagrees with the summary (R55), the pointer not held against it (log 15), DIVERGED where it differs from the copy, REFUSED for a lost own request (R127), and the departures of R81; after the last slot its join is judged (R67). -/
def Obligations.SummaryEvictsOrHasAnotherDigest : Prop :=
  ∀ (s : State) (c : StationConfig) (m x : Image) (b : Beat) (now : Instant) (line : List Bool), s.cfg = some c →
    s.sc.state = .member → s.sc.deferredLeave = false → s.iu.image = some m → s.ct.state = .slots →
    s.ti.receiving = some false → s.ti.tx = .idle → receiveLine line = .whole (.beat b true) true →
    b.structureOk c true = true → b.summary = some x → b.sender ≠ c.id → m.lists b.sender = true →
    (∀ p, x.digest ≠ c.digest → m.position b.sender = some p →
        ∃ t, exec (.frameEnd now line) s = .next t ∧ t.iu = { s.iu with certainty := some .doubtful } ∧
          t.ti.inconsistent = (if s.ti.inconsistent < 255 then s.ti.inconsistent + 1 else 255) ∧
          IdSet.has t.ct.heard b.sender = true ∧ t.ct.summarySeen = s.ct.summarySeen ∧
          (s.ct.pointer ≤ p → t.ct.pointer = p + 1) ∧
          t.du = ((b.records.filter (accepts c b.sender)).foldl (State.deliver b.sender) s).du ∧ t.sc = s.sc) ∧
      (∀ q, x.digest = c.digest → x.lists c.id = false → (s.iu.certainty ≠ some .synced ∨ s.iu.copy ≠ some x) →
        x.position b.sender = some q →
        let ended : TrunkInterface := s.ti.counts b x q
        let out := { s.sc with state := .listen, departing := false, removal := some .evicted,
                               holdoff := some (now + 16 * (c.period * unitsPerMicrosecond)),
                               founding := some (now + (4 + c.id.val) * (c.period * unitsPerMicrosecond)) }
        ∃ t, exec (.frameEnd now line) s = .next t ∧
          (q + 1 < x.roster.length → t.ct.state = .slots ∧ t.sc = out ∧ t.ti = ended) ∧
          (x.roster.length ≤ q + 1 → t.ct.state = .window ∧ t.joinJudged c x now true out ended) ∧
          t.flag .removed = true ∧ t.reportsDivergence s c.id x ∧
          t.iu = (((s.setIu { image := some x, copy := none, certainty := none, marks := .empty }).setSc
            { s.sc with state := .listen }).afterHeader c.id b x q).iu ∧
          t.ti.inconsistent = ended.inconsistent ∧ t.ct.pointer = q + 1 ∧ t.ct.refixed s.ct c x now false ∧
          t.ct.position = none ∧ t.ct.heard = IdSet.add s.ct.heard b.sender ∧ t.cb.isEmpty ∧
          t.cb.serial = s.cb.serial ∧ t.rt = { queue := [], inFlight := [], gapPending := true } ∧
          t.sq = { s.sq with inFlight := s.sq.inFlight.map (fun v => { v with discard := true }) } ∧
          t.halt = { outcome := .none, unacked := 0 } ∧
          t.du = ((b.records.filter (accepts c b.sender)).foldl (State.deliver b.sender) s).du)

/-- A summary of a sender that a MEMBER does not list. It is ignored, and the frame is FOREIGN, where it lists a SYNCED station (R17), where it lists a DOUBTFUL one but not its own sender or has another digest (R11, R17), or where the own roster is the larger (R18); a DOUBTFUL station adopts it where it lists both, with the timing of R37 (logs 20, 21, 33). Where it does not list the station and its roster is the larger, the station yields (R18): LISTEN with reason YIELDED and no holdoff, the summary its tracked image with the frame's items applied, the CT's timing that of R38, and the departures of R81; after the last slot its join is judged, which another digest takes to FAULT(PLAN_MISMATCH) (R67, R68). Which roster is the larger is YieldComparisonIsDecided's; a header that disagrees with the summary taken makes the frame INCONSISTENT, its items left and a MEMBER DOUBTFUL at another epoch or cycle number (R55, log 41), but the pointer is not held against a frame that set it (log 15). -/
def Obligations.ForeignSummaryIsIgnoredOrYieldedTo : Prop :=
  ∀ (s : State) (c : StationConfig) (m x : Image) (b : Beat) (now : Instant) (line : List Bool) (q : Nat), s.cfg = some c →
    s.sc.state = .member → s.sc.deferredLeave = false → s.iu.image = some m → s.ct.state = .slots →
    s.ti.receiving = some false → s.ti.tx = .idle → receiveLine line = .whole (.beat b true) true →
    b.structureOk c true = true → b.summary = some x → b.sender ≠ c.id → m.lists b.sender = false →
    ((x.lists c.id = true ∧ (s.iu.certainty = some .synced ∨ x.digest ≠ c.digest ∨ x.lists b.sender = false) ∨
          x.lists c.id = false ∧ foreignLarger m.ids x.ids = false) →
        exec (.frameEnd now line) s =
          .next (((s.setTi { s.ti with receiving := none,
                                       foreign := if s.ti.foreign < 255 then s.ti.foreign + 1 else 255 }).setCp
            { s.cp with flags := s.cp.flags ||| 0x0100 }).setCt
            { s.ct with silence := some (now + c.silence * unitsPerMicrosecond) })) ∧
      (x.lists c.id = true → s.iu.certainty = some .doubtful → x.digest = c.digest → x.position b.sender = some q →
        ∃ t, exec (.frameEnd now line) s = .next t ∧ t.sc = s.sc ∧
          t.iu = ((s.setIu { image := some x, copy := some x, certainty := some .synced, marks := .empty }).afterHeader c.id b x q).iu ∧
          t.reportsAdoption s c.id x ∧ t.ct.pointer = q + 1 ∧ t.ct.refixed s.ct c x now s.ct.suppressed ∧
          t.ct.heard = IdSet.add s.ct.heard b.sender ∧ t.ti.foreign = s.ti.foreign ∧
          t.ti.inconsistent = (s.ti.counts b x q).inconsistent ∧
          t.du = ((b.records.filter (accepts c b.sender)).foldl (State.deliver b.sender) s).du) ∧
      (x.lists c.id = false → foreignLarger m.ids x.ids = true → x.position b.sender = some q →
        let ended : TrunkInterface := s.ti.counts b x q
        let out := { s.sc with state := .listen, departing := false, removal := some .yielded,
                               founding := some (now + (4 + c.id.val) * (c.period * unitsPerMicrosecond)) }
        ∃ t, exec (.frameEnd now line) s = .next t ∧ t.flag .removed = true ∧ t.flag .yielded = true ∧
          (q + 1 < x.roster.length → t.ct.state = .slots ∧ t.sc = out ∧ t.ti = ended) ∧
          (x.roster.length ≤ q + 1 → t.joinJudged c x now true out ended) ∧
          (t.sc.state = .fault → t.du = s.du) ∧
          (t.sc.state ≠ .fault →
            t.iu = (((s.setIu { image := some x, copy := none, certainty := none, marks := .empty }).setSc
              { s.sc with state := .listen }).afterHeader c.id b x q).iu ∧
            t.ct.pointer = q + 1 ∧ t.ct.takenUp c x b.sender q false ∧ t.ct.position = none ∧
            (x.roster.length ≤ q + 1 → t.ct.state = .window) ∧
            t.du = ((b.records.filter (accepts c b.sender)).foldl (State.deliver b.sender) s).du) ∧
          t.cb.isEmpty ∧ t.cb.serial = s.cb.serial ∧
          t.rt = { queue := [], inFlight := [], gapPending := true } ∧
          t.sq = { s.sq with inFlight := s.sq.inFlight.map (fun v => { v with discard := true }) } ∧
          t.halt = { outcome := .none, unacked := 0 })

/-- A summary at a LISTEN station (R12): it becomes the tracked image, the frame's items are applied to it and its accepted records are delivered. From UNTIMED, or from a sender that the image held does not list, the CT takes up new timing (R38): no mark, and the heard set up to the sender. From a listed one it keeps mark, next opening and heard set (R37). Either way the plan is that of the summary (phases by logs 21 and 33). A header that disagrees with the summary makes the frame INCONSISTENT, its items left (R55). After the last slot the join window opens and the join is judged by the new image: another digest takes a station that wants to join to FAULT(PLAN_MISMATCH), with no record taken (R67, R68). The pointer is not held against the frame that set it (log 15). -/
def Obligations.ListenerTracksSummary : Prop :=
  ∀ (s : State) (c : StationConfig) (x : Image) (b : Beat) (now : Instant) (line : List Bool) (q : Nat), s.cfg = some c →
    s.sc.state = .listen → s.sc.deferredLeave = false → (s.ct.state = .slots ∨ s.ct.state = .untimed) →
    s.ti.receiving = some false → s.ti.tx = .idle → receiveLine line = .whole (.beat b true) true →
    b.structureOk c true = true → b.summary = some x → b.sender ≠ c.id → x.position b.sender = some q →
    let known := s.ct.state = .slots ∧ ∃ m, s.iu.image = some m ∧ m.lists b.sender = true
    let ended : TrunkInterface := s.ti.counts b x q
    ∃ t, exec (.frameEnd now line) s = .next t ∧
      (q + 1 < x.roster.length → t.ct.state = .slots ∧ t.ct.silence = some (now + c.silence * unitsPerMicrosecond) ∧
        t.sc = s.sc ∧ t.ti = ended) ∧
      (x.roster.length ≤ q + 1 → t.joinJudged c x now true s.sc ended) ∧ (t.sc.state = .fault → t.du = s.du) ∧
      (t.sc.state ≠ .fault →
        t.iu = ((s.setIu { image := some x, copy := none, certainty := none, marks := .empty }).afterHeader c.id b x q).iu ∧
        t.ct.pointer = q + 1 ∧ t.ti.inconsistent = ended.inconsistent ∧
        (known → t.ct.refixed s.ct c x now false ∧ t.ct.heard = IdSet.add s.ct.heard b.sender) ∧
        (¬ known → t.ct.takenUp c x b.sender q false) ∧
        (x.roster.length ≤ q + 1 → t.ct.state = .window ∧ t.ct.window = some (now + c.silence * unitsPerMicrosecond)) ∧
        t.du = ((b.records.filter (accepts c b.sender)).foldl (State.deliver b.sender) s).du) ∧ t.cb = s.cb ∧ t.rt = s.rt ∧
      t.sq = s.sq ∧ t.halt = s.halt

/-- A summary at a JOINING station (R75, R76): one that lists it and has its digest makes it MEMBER with that image, SYNCED, all channels IN and JOINED raised, departing kept; any other is a failed attempt, counted, back to LISTEN with the summary as tracked image, or FAULT(JOIN_FAILED) at the eighth; a departing station goes to IDLE and counts none. From a sender that the image held lists, mark, next opening and heard set stay (R37), from another the CT takes up new timing (R38); the plan is that of the summary, without conversions at a station confirmed departing (R78, log 20), and the phases are reckoned anew (R94, logs 21 and 33). A header that disagrees with the summary makes the frame INCONSISTENT, its items left and a confirmed MEMBER DOUBTFUL at another epoch or cycle number (R55, log 41); otherwise the items are applied after the summary. The accepted records are delivered, but not at a station that left the trunk, where the frame raises no count (log 38). The pointer is not held against the frame that set it (log 15), and from the last slot it opens the join window, where a station that listens again judges its next join, FAULT(PLAN_MISMATCH) at another digest included (R67, R68). -/
def Obligations.SummaryEndsTheJoin : Prop :=
  ∀ (s : State) (c : StationConfig) (x : Image) (b : Beat) (now : Instant) (line : List Bool) (q : Nat), s.cfg = some c →
    s.sc.state = .joining → s.sc.deferredLeave = false → s.ct.state = .slots → s.ti.receiving = some false → s.ti.tx = .idle →
    receiveLine line = .whole (.beat b true) true → b.structureOk c true = true → b.summary = some x →
    b.sender ≠ c.id → x.position b.sender = some q →
    let failed := (x.lists c.id = false ∨ x.digest ≠ c.digest)
    let known := ∃ m, s.iu.image = some m ∧ m.lists b.sender = true
    let timed : CycleTimer → Bool → Prop := fun t suppressed => t.pointer = q + 1 ∧
      (known → t.refixed s.ct c x now suppressed ∧ t.heard = IdSet.add s.ct.heard b.sender) ∧
      (¬ known → t.takenUp c x b.sender q suppressed) ∧
      (x.roster.length ≤ q + 1 → t.state = .window ∧ t.window = some (now + c.silence * unitsPerMicrosecond))
    let ended : TrunkInterface := s.ti.counts b x q
    let delivered := ((b.records.filter (accepts c b.sender)).foldl (State.deliver b.sender) s).du
    (x.lists c.id = true → x.digest = c.digest →
        ∃ t, exec (.frameEnd now line) s = .next t ∧ t.sc = { s.sc with state := .member, attempts := 0 } ∧
          t.iu = (((s.setIu { image := some x, copy := some x, certainty := some .synced, marks := .empty }).setSc
            { s.sc with state := .member }).afterHeader c.id b x q).iu ∧ t.iu.copy = some x ∧
          (b.epoch = x.epoch → b.cycle = x.cycle → t.iu.certainty = some .synced) ∧ t.flag .joined = true ∧
          t.rm = 0 ∧ t.halt = { outcome := if x.run = .halted then .adopted else .none, unacked := 0 } ∧
          timed t.ct s.sc.departing ∧ t.ti.inconsistent = ended.inconsistent ∧ t.ti.foreign = s.ti.foreign ∧ t.du = delivered) ∧
      (failed → s.sc.departing = false → s.sc.attempts < 7 →
        let out := { s.sc with state := .listen, attempts := s.sc.attempts + 1,
                               founding := some (now + (4 + c.id.val) * (c.period * unitsPerMicrosecond)) }
        ∃ t, exec (.frameEnd now line) s = .next t ∧
          (q + 1 < x.roster.length → t.ct.state = .slots ∧ t.sc = out ∧ t.ti = ended) ∧
          (x.roster.length ≤ q + 1 → t.joinJudged c x now true out ended) ∧ (t.sc.state = .fault → t.du = s.du) ∧
          (t.sc.state ≠ .fault →
            t.iu = (((s.setIu { image := some x, copy := none, certainty := none, marks := .empty }).setSc
              { s.sc with state := .listen }).afterHeader c.id b x q).iu ∧
            timed t.ct false ∧ t.ti.inconsistent = ended.inconsistent ∧ t.du = delivered) ∧
          t.rm = s.rm ∧ t.halt = s.halt) ∧
      (failed → s.sc.departing = false → 7 ≤ s.sc.attempts →
        ∃ t, exec (.frameEnd now line) s = .next t ∧ t.sc.state = .fault ∧ t.sc.faultReason = some .joinFailed ∧
          t.sc.attempts = s.sc.attempts + 1 ∧ t.sc.founding = none ∧ t.sc.holdoff = none ∧ t.flag .fault = true ∧
          t.iu = .empty ∧ t.ct = .stopped ∧ t.ti.tx = .idle ∧ t.ti.receiving = none ∧ t.ti.foreign = s.ti.foreign ∧
          t.ti.inconsistent = s.ti.inconsistent ∧ t.du = s.du ∧ t.rm = s.rm ∧ t.halt = s.halt) ∧
      (failed → s.sc.departing = true →
        ∃ t, exec (.frameEnd now line) s = .next t ∧
          t.sc = { s.sc with state := .idle, departing := false, founding := none } ∧ t.iu = .empty ∧ t.ct = .stopped ∧
          t.ti.tx = .idle ∧ t.ti.receiving = none ∧ t.ti.foreign = s.ti.foreign ∧ t.ti.inconsistent = s.ti.inconsistent ∧
          t.du = s.du ∧ t.rm = s.rm ∧ t.halt = s.halt)

/-- The end of a frame that started in the open join window closes it (R31): the frame's own effects come first, and then the cycle end, the very one that JOIN_WINDOW_TIMER_EXPIRY at that instant gives. A frame that is not clean makes a MEMBER DOUBTFUL; a clean JOIN sets the admission mark (R56); the own JOIN read back, from SENDING or by log 4 from ARBITRATING and recognised by its levels (log 11), makes a LISTEN station JOINING with its own mark (R69, R74); a BEAT of unsound structure is INCONSISTENT and gives nothing but, from a listed sender, its heard id (R53); a BEAT of a listed sender without a summary is INCONSISTENT and makes a MEMBER DOUBTFUL whatever position it states (R55), and its accepted records are placed before or after the cycle end (R162, log 13), and not at all where the cycle end leads to FAULT (log 39); one of another sender is FOREIGN. An own JOIN still ARMED is abandoned (R50); an abort mark goes on, and a LEAVE that waits for it waits on. BEATs with a summary are SummaryInTheWindowComesBeforeTheCycleEnd's. -/
def Obligations.FrameEndInTheWindowIsTheCycleEnd : Prop :=
  ∀ (s : State) (c : StationConfig) (m : Image) (now : Instant) (line : List Bool), s.cfg = some c → s.receiverOn = true →
    s.iu.image = some m → s.ct.state = .window → s.ti.receiving = some true →
    let open' : CycleTimer := { s.ct with window := some now }
    let doubted : ImageUnit := if s.sc.state = .member then { s.iu with certainty := some .doubtful } else s.iu
    let saturated := fun n => if n < 255 then n + 1 else 255
    let ended : TrunkInterface :=
      if s.ti.tx = .armed then { s.ti with tx := .idle, frame := none, startGuard := none, receiving := none, clashAfterAbort := false }
      else { s.ti with receiving := none }
    ((s.sc.deferredLeave = false ∧ (s.ti.tx = .idle ∨ (s.ti.tx = .armed ∧ ∃ digest, s.ti.frame = some (.join digest)))) ∨
        s.ti.tx = .aborting →
      ((receiveLine line = .cutShort ∨ ∃ f, receiveLine line = .whole f false) →
        exec (.frameEnd now line) s =
          exec .joinWindowTimerExpiry ((((s.setTi { ended with errors := saturated s.ti.errors }).setCp
            { s.cp with flags := s.cp.flags ||| 0x0080 }).setIu doubted).setCt open')) ∧
      (∀ sender digest, receiveLine line = .whole (.join sender digest) true → sender ≠ c.id →
        exec (.frameEnd now line) s =
          exec .joinWindowTimerExpiry (((s.setTi ended).setIu
            { s.iu with marks := { s.iu.marks with join := some (sender, digest) } }).setCt open')) ∧
      (∀ b inRange, receiveLine line = .whole (.beat b inRange) true → b.sender ≠ c.id → b.structureOk c inRange = false →
        exec (.frameEnd now line) s =
          exec .joinWindowTimerExpiry ((s.setTi { ended with inconsistent := saturated s.ti.inconsistent }).setCt
            (if m.lists b.sender = true then { open' with heard := IdSet.add s.ct.heard b.sender } else open'))) ∧
      (∀ b, receiveLine line = .whole (.beat b true) true → b.sender ≠ c.id → b.structureOk c true = true → b.summary = none →
        (m.lists b.sender = false →
          exec (.frameEnd now line) s =
            exec .joinWindowTimerExpiry (((s.setTi { ended with foreign := saturated s.ti.foreign }).setCp
              { s.cp with flags := s.cp.flags ||| 0x0100 }).setCt open')) ∧
        (m.lists b.sender = true →
          s.closesWindowWith now line b.sender (b.records.filter (accepts c b.sender))
            (((s.setTi { ended with inconsistent := saturated s.ti.inconsistent }).setIu doubted).setCt
              { open' with heard := IdSet.add s.ct.heard b.sender })))) ∧
      (∀ digest, s.sc.deferredLeave = false → s.sc.state = .listen → (s.ti.tx = .arbitrating ∨ s.ti.tx = .sending) →
        s.ti.frame = some (.join digest) → line = lineOf (withCrc (joinContent c.id digest)) →
        exec (.frameEnd now line) s =
          exec .joinWindowTimerExpiry ((((s.setTi { s.ti with tx := .idle, frame := none, startGuard := none, receiving := none,
                                                              clashSuspect := false, clashAfterAbort := false }).setSc
            { s.sc with state := .joining, founding := none }).setIu
            { s.iu with marks := { s.iu.marks with join := some (c.id, digest) } }).setCt open'))

/-- A BEAT with a summary that ends in the join window (R31): the summary step comes first, with the heard set and the items on the image that it leaves, and the cycle end of that image after it, with the values that R37 or R38 set (the plan; the departing flag by log 20, the phases by logs 21 and 33) and the pointer at N. The header is held against that image (R55): another epoch or cycle number makes the frame INCONSISTENT and a MEMBER DOUBTFUL (log 41), another position makes it INCONSISTENT, its items left; the pointer check is not made for a summary that was confirmed or taken (R55, log 15). A MEMBER confirms or adopts it (R10, R11), turns away another digest (R4), is evicted by it (R83), ignores it (R17, R18, R11) or yields (R18); a LISTEN station tracks it (R12), its own JOIN still ARMED abandoned (R50); a JOINING station is confirmed, or fails its attempt: it listens on, or goes to FAULT or IDLE, where no cycle end comes (R75, R76) and the frame raises no count (log 38). An abort mark goes on, and a LEAVE that waits for it waits on. The accepted records are placed before or after the cycle end (R162, log 13), and not at all where it leads to FAULT (log 39). -/
def Obligations.SummaryInTheWindowComesBeforeTheCycleEnd : Prop :=
  ∀ (s : State) (c : StationConfig) (m x : Image) (b : Beat) (now : Instant) (line : List Bool), s.cfg = some c →
    ((s.sc.deferredLeave = false ∧ (s.ti.tx = .idle ∨ (s.ti.tx = .armed ∧ ∃ digest, s.ti.frame = some (.join digest)))) ∨
      s.ti.tx = .aborting) →
    s.iu.image = some m → s.ct.state = .window → s.ti.receiving = some true →
    receiveLine line = .whole (.beat b true) true → b.structureOk c true = true → b.summary = some x → b.sender ≠ c.id →
    let ended : TrunkInterface :=
      if s.ti.tx = .armed then { s.ti with tx := .idle, frame := none, startGuard := none, receiving := none, clashAfterAbort := false }
      else { s.ti with receiving := none }
    let saturated := fun n => if n < 255 then n + 1 else 255
    let heard : IdSet := IdSet.add s.ct.heard b.sender
    let wait : Instant := (4 + c.id.val) * (c.period * unitsPerMicrosecond)
    let closes : State → Prop := s.closesWindowWith now line b.sender (b.records.filter (accepts c b.sender))
    (s.sc.state = .member →
      (m.lists b.sender = true → x.digest ≠ c.digest →
        closes (((s.setTi { ended with inconsistent := saturated s.ti.inconsistent }).setIu
          { s.iu with certainty := some .doubtful }).setCt { s.ct with window := some now, heard })) ∧
      (∀ p, m.position b.sender = some p → x.digest = c.digest → s.iu.certainty = some .synced → s.iu.copy = some x →
        closes (((s.afterHeader c.id b m p).setTi (ended.counts b m p)).setCt
          { s.ct with window := some now, heard, summarySeen := true })) ∧
      (m.lists b.sender = false →
        (x.lists c.id = true ∧ (s.iu.certainty = some .synced ∨ x.digest ≠ c.digest ∨ x.lists b.sender = false) ∨
          x.lists c.id = false ∧ foreignLarger m.ids x.ids = false) →
        exec (.frameEnd now line) s =
          exec .joinWindowTimerExpiry (((s.setTi { ended with foreign := saturated s.ti.foreign }).setCp
            { s.cp with flags := s.cp.flags ||| 0x0100 }).setCt { s.ct with window := some now }))) ∧
    ∀ q, x.position b.sender = some q →
      let kept : CycleTimer → Bool → Prop := fun t suppressed =>
        t.closesBy x.roster.length now ∧ t.refixed s.ct c x now suppressed ∧ t.heard = heard
      let fresh : CycleTimer → Bool → Prop := fun t suppressed =>
        t.closesBy x.roster.length now ∧ t.takenUp c x b.sender q suppressed
      let timed : CycleTimer → Bool → Prop := fun t suppressed =>
        (m.lists b.sender = true → kept t suppressed) ∧ (m.lists b.sender = false → fresh t suppressed)
      let adopted : ImageUnit := (((s.setIu { image := some x, copy := some x, certainty := some .synced, marks := .empty }).setSc
        { s.sc with state := .member }).afterHeader c.id b x q).iu
      let tracked : ImageUnit := (((s.setIu { image := some x, copy := none, certainty := none, marks := .empty }).setSc
        { s.sc with state := .listen }).afterHeader c.id b x q).iu
      let stays : State → Prop := fun u => u.cb = s.cb ∧ u.rt = s.rt ∧ u.sq = s.sq ∧ u.du = s.du ∧ u.ti = ended.counts b x q
      (s.sc.state = .member →
        (((m.lists b.sender = true ∧ (s.iu.certainty ≠ some .synced ∨ s.iu.copy ≠ some x)) ∨
            (m.lists b.sender = false ∧ s.iu.certainty = some .doubtful)) → x.lists c.id = true → x.digest = c.digest →
          ∃ u, closes u ∧ kept u.ct s.ct.suppressed ∧ stays u ∧ u.sc = s.sc ∧ u.iu = adopted ∧ u.reportsAdoption s c.id x) ∧
        (m.lists b.sender = true → (s.iu.certainty ≠ some .synced ∨ s.iu.copy ≠ some x) → x.lists c.id = false →
          x.digest = c.digest →
          ∃ u, closes u ∧ kept u.ct false ∧ u.departedFrom s ∧ u.ti = ended.counts b x q ∧ u.iu = tracked ∧
            u.sc = { s.sc with state := .listen, departing := false, removal := some .evicted,
                               holdoff := some (now + 16 * (c.period * unitsPerMicrosecond)), founding := some (now + wait) } ∧
            u.flag .removed = true ∧ u.reportsDivergence s c.id x) ∧
        (m.lists b.sender = false → x.lists c.id = false → foreignLarger m.ids x.ids = true →
          ∃ u, closes u ∧ fresh u.ct false ∧ u.departedFrom s ∧ u.ti = ended.counts b x q ∧ u.iu = tracked ∧
            u.sc = { s.sc with state := .listen, departing := false, removal := some .yielded, founding := some (now + wait) } ∧
            u.flag .removed = true ∧ u.flag .yielded = true)) ∧
      (s.sc.state = .listen →
        ∃ u, closes u ∧ timed u.ct false ∧ stays u ∧ u.sc = s.sc ∧ u.iu = tracked ∧ u.halt = s.halt ∧ u.cp = s.cp) ∧
      (s.sc.state = .joining →
        (x.lists c.id = true → x.digest = c.digest →
          ∃ u, closes u ∧ timed u.ct s.sc.departing ∧ stays u ∧
            u.sc = { s.sc with state := .member, attempts := 0 } ∧ u.iu = adopted ∧ u.flag .joined = true ∧ u.rm = 0 ∧
            u.halt = { outcome := if x.run = .halted then .adopted else .none, unacked := 0 }) ∧
        ((x.lists c.id = false ∨ x.digest ≠ c.digest) →
          (s.sc.departing = false → s.sc.attempts < 7 →
            ∃ u, closes u ∧ timed u.ct false ∧ stays u ∧
              u.sc = { s.sc with state := .listen, attempts := s.sc.attempts + 1, founding := some (now + wait) } ∧
              u.iu = tracked ∧ u.halt = s.halt ∧ u.cp = s.cp) ∧
          (s.sc.departing = false → 7 ≤ s.sc.attempts →
            ∃ t, exec (.frameEnd now line) s = .next t ∧ t.sc.state = .fault ∧ t.sc.faultReason = some .joinFailed ∧
              t.sc.attempts = s.sc.attempts + 1 ∧ t.flag .fault = true ∧ t.iu = .empty ∧ t.ct = .stopped ∧ t.ti.tx = .idle ∧
              t.ti.receiving = none ∧ t.ti.foreign = s.ti.foreign ∧ t.ti.inconsistent = s.ti.inconsistent ∧ t.du = s.du) ∧
          (s.sc.departing = true →
            ∃ t, exec (.frameEnd now line) s = .next t ∧
              t.sc = { s.sc with state := .idle, departing := false, founding := none, deferredLeave := false } ∧ t.iu = .empty ∧
              t.ct = .stopped ∧ t.ti.tx = .idle ∧ t.ti.receiving = none ∧ t.ti.foreign = s.ti.foreign ∧
              t.ti.inconsistent = s.ti.inconsistent ∧ t.du = s.du)))

/-! ### The shared image -/

/-- R116's order of cases at the arrival of a PRIORITY_REQ. -/
def Obligations.PriorityRequestIsJudgedInOrder : Prop :=
  ∀ (m : Image) (k : Marks) (sender : StationId) (cause : Cause) (total : Nat) (serial : Byte),
    let arrival := m.arrive k sender (.priorityReq cause total serial)
    (m.run = .halted → arrival = (m, k, .refused .halted serial)) ∧
      (m.run = .running →
        (m.gather.isSome → arrival = (m, k, .refused .halting serial)) ∧
        (m.gather = none →
          (4 ≤ m.queue.length → arrival = (m, k, .refused .full serial)) ∧
          (m.queue.length < 4 →
            (((∃ r ∈ m.queue, r.requester = sender) ∨ ∃ a, m.capture = some a ∧ a.request.requester = sender) →
              arrival = (m, k, .nothing)) ∧
            ((∀ r ∈ m.queue, r.requester ≠ sender) → (∀ a, m.capture = some a → a.request.requester ≠ sender) →
              arrival = ({ m with queue := m.queue ++ [{ requester := sender, cause, total, serial }] }, k, .nothing)))))

/-- The arrivals of HALT_REQ, HALT_ACK, RESUME_REQ and LEAVE at an image (R133 with R124, R137, R142, R80), and what a MEMBER reports of an item (R126, R140): a refusal or the loss of its own request with reason and serial, the start of a gather, and nothing of another station's refused request. -/
def Obligations.HaltItemsArriveAndAreReported : Prop :=
  (∀ (m : Image) (k : Marks) (sender : StationId),
    (m.run = .running → m.gather = none →
        m.arrive k sender .haltReq =
          ({ m with gather := some { required := m.idSet, acked := 0, elapsed := 0 }, queue := [] },
            { k with cancelCapture := k.cancelCapture || m.capture.isSome }, .gatherStarted m.queue)) ∧
      ((m.run = .halted ∨ m.gather.isSome) → m.arrive k sender .haltReq = (m, k, .nothing)) ∧
      (∀ g, m.gather = some g → IdSet.has g.required sender = true →
        m.arrive k sender .haltAck = ({ m with gather := some { g with acked := g.acked ||| 1#16 <<< sender.val } }, k, .nothing)) ∧
      ((m.gather = none ∨ ∃ g, m.gather = some g ∧ IdSet.has g.required sender = false) →
        m.arrive k sender .haltAck = (m, k, .nothing)) ∧
      (m.run = .halted → m.arrive k sender .resumeReq = (m, { k with resume := true }, .nothing)) ∧
      (m.run = .running → m.arrive k sender .resumeReq = (m, k, .nothing)) ∧
      m.arrive k sender .leave = (m, { k with leavers := k.leavers ||| 1#16 <<< sender.val }, .nothing)) ∧
    ∀ (s : State) (m : Image) (own sender : StationId) (cause : Cause) (total : Nat) (serial : Byte),
      s.sc.state = .member → s.iu.image = some m →
      let request := s.applyItem own sender (.priorityReq cause total serial)
      let halt := s.applyItem own sender .haltReq
      (∀ reason, (m.arrive s.iu.marks sender (.priorityReq cause total serial)).2.2 = .refused reason serial →
          (sender = own → request.cp =
            { s.cp with flags := s.cp.flags ||| 0x0400, lastRefusal := some (reason, serial) }) ∧
          (sender ≠ own → request = s)) ∧
        ((m.arrive s.iu.marks sender (.priorityReq cause total serial)).2.2 = .nothing → request.cp = s.cp) ∧
        (m.run = .running → m.gather = none →
          (∀ r, m.queue.find? (·.requester = own) = some r →
            halt.cp = { s.cp with flags := s.cp.flags ||| 0x0800 ||| 0x0400, lastRefusal := some (.halting, r.serial) }) ∧
          ((∀ r ∈ m.queue, r.requester ≠ own) → halt.cp = { s.cp with flags := s.cp.flags ||| 0x0800 })) ∧
        ((m.run = .halted ∨ m.gather.isSome) → halt = s)

/-- What the cycle end of an image does to its gather, run state, active capture and queue: the ids that the roster part removed leave the gather (R138) before it is judged (R139), a RESUME mark ends HALTED (R143), the capture moves on or ends (R118), and the queue head is promoted on the image after both parts (R119). -/
def Obligations.CycleEndMovesHaltAndCapture : Prop :=
  ∀ (m : Image) (k : Marks) (heard : IdSet) (plan : Option PhasePlan) (own : Digest) (planLength : Nat),
    let m' := m.cycleEnd k heard plan own planLength
    let removed := m.removedIds k heard
    (∀ i, IdSet.has removed i = true ↔ i ∈ m.ids ∧ i ∉ (rosterKept m.roster k heard).map (·.id)) ∧
      (∀ g, m.gather = some g →
        let required := g.required &&& ~~~removed
        let acked := g.acked &&& ~~~removed
        ((∀ i, IdSet.has required i = true → IdSet.has acked i = true) →
          m'.run = .halted ∧ m'.gather = none ∧ m.haltChange k heard = .complete) ∧
        (¬ (∀ i, IdSet.has required i = true → IdSet.has acked i = true) →
          (7 ≤ g.elapsed → m'.run = .halted ∧ m'.gather = none ∧
            m.haltChange k heard = .incomplete (required &&& ~~~acked)) ∧
          (g.elapsed < 7 → m'.run = m.run ∧ m'.gather = some { required, acked, elapsed := g.elapsed + 1 } ∧
            m.haltChange k heard = .none))) ∧
      (m.gather = none →
        (k.resume = true → m.run = .halted → m'.run = .running ∧ m'.gather = none ∧ m.haltChange k heard = .resumed) ∧
        ((k.resume = false ∨ m.run = .running) → m'.run = m.run ∧ m'.gather = none ∧ m.haltChange k heard = .none)) ∧
      (∀ a, m.capture = some a → k.cancelCapture = false → a.next + 1 < a.request.total →
        m'.capture = some { a with next := a.next + 1 } ∧ m'.queue = m.queue) ∧
      ((m.capture = none ∨ k.cancelCapture = true ∨ ∃ a, m.capture = some a ∧ a.request.total ≤ a.next + 1) →
        (∀ r rest, m.queue = r :: rest → m'.run = .running → m'.gather = none →
          m'.capture = some { request := r, next := 0 } ∧ m'.queue = rest) ∧
        ((m.queue = [] ∨ m'.run = .halted ∨ m'.gather.isSome) → m'.capture = none ∧ m'.queue = m.queue))

/-- R71 with step 3 of R70, entry by entry; R70: which entries stay, in their order, and where an admitted one is inserted; R72: when the marked JOIN is admitted; R3: the epoch grows by one when an entry was added or removed; R91: how the cursor moves; the cycle number grows by one. -/
def Obligations.RosterEpochAndCursorAtTheCycleEnd : Prop :=
  ∀ (e : RosterEntry) (m : Image) (k : Marks) (heard : IdSet) (i : StationId) (digest : Digest) (p : PhasePlan) (own : Digest)
    (planLength : Nat),
    let m' := m.cycleEnd k heard (some p) own planLength
    (IdSet.has heard e.id = true → e.cycleEnd heard = some { e with missed := 0, admitted := false }) ∧
      (IdSet.has heard e.id = false →
        (e.admitted = true → e.cycleEnd heard = some { e with admitted := false }) ∧
        (e.admitted = false →
          (e.missed < 2 → e.cycleEnd heard = some { e with missed := e.missed + 1 }) ∧
          (2 ≤ e.missed → e.cycleEnd heard = none))) ∧
      (k.join = none → m.admission k heard = none) ∧
      (k.join = some (i, digest) →
        (m.admission k heard = some { id := i, missed := 0, admitted := true } ↔
            m.lists i = false ∧ (rosterKept m.roster k heard).length < 16 ∧ digest = m.digest) ∧
        (m.admission k heard = none ↔
            ¬ (m.lists i = false ∧ (rosterKept m.roster k heard).length < 16 ∧ digest = m.digest))) ∧
      (∀ x, x ∈ rosterKept m.roster k heard ↔ ∃ y ∈ m.roster, IdSet.has k.leavers y.id = false ∧ y.cycleEnd heard = some x) ∧
      ((rosterKept m.roster k heard).map (·.id)).Sublist m.ids ∧
      (m.admission k heard = none → m'.roster = rosterKept m.roster k heard) ∧
      (∀ added, m.admission k heard = some added → ∃ low high, rosterKept m.roster k heard = low ++ high ∧
        m'.roster = low ++ added :: high ∧ (∀ x ∈ low, x.id ≤ added.id) ∧ ∀ x ∈ high.head?, added.id < x.id) ∧
      (idsAscending m.ids = true → idsAscending m'.ids = true) ∧
      m'.epoch = (if m'.ids = m.ids then m.epoch else m.epoch + 1) ∧ m'.cycle = m.cycle + 1 ∧ m'.digest = m.digest ∧
      (p.type = .regular → m.digest = own → m'.cursor = (m.cursor + p.members) % planLength) ∧
      (p.type ≠ .regular → m'.cursor = m.cursor)

/-- R18: of two different rosters with ascending ids, exactly one is the larger, and it is the one that R18's steps name. -/
def Obligations.YieldComparisonIsDecided : Prop :=
  ∀ own foreign : List StationId, idsAscending own = true → idsAscending foreign = true → own ≠ foreign →
    (foreignLarger own foreign = true ↔ foreignLarger foreign own = false) ∧
      (own.length < foreign.length → foreignLarger own foreign = true) ∧
      (∀ pre x y u v, own.length = foreign.length → own = pre ++ x :: u → foreign = pre ++ y :: v → y < x →
        foreignLarger own foreign = true)

/-! ### Formats -/

/-- R40: neither level stays on the line for more than nine bit times in a row within a frame. A BEAT or a JOIN put on the line reads back whole, with a matching CRC and every field at its value, for every BEAT whose counts and fields fit their places in the frame. -/
def Obligations.FramesReadBackAsSent : Prop :=
  (∀ (bytes : List Byte) (before run after : List Bool) (level : Bool), lineOf bytes = before ++ run ++ after →
    (∀ x ∈ run, x = level) → run.length ≤ 9) ∧
  (∀ b : Beat, b.items.length ≤ 7 → b.records.length ≤ 15 →
      (∀ cause total serial, Item.priorityReq cause total serial ∈ b.items → total < 16) →
      (∀ m, b.summary = some m → m.roster.length < 256 ∧ m.queue.length < 256 ∧ m.cursor < 256 ∧
        (∀ e ∈ m.roster, e.missed < 4) ∧ (∀ r ∈ m.queue, r.total < 16) ∧
        (∀ k, m.capture = some k → k.request.total < 16 ∧ k.next < 8) ∧ (∀ g, m.gather = some g → g.elapsed < 256)) →
      receiveLine (lineOf (withCrc (beatContent b))) = .whole (.beat b true) true) ∧
    ∀ (sender : StationId) (digest : Digest),
      receiveLine (lineOf (withCrc (joinContent sender digest))) = .whole (.join sender digest) true

/-- A well-formed collector-port command is taken from its bytes, whatever follows them, and from no shorter part of them; JOIN is taken at the instant it is read. -/
def Obligations.PortCommandsAreReadFromTheirBytes : Prop :=
  ∀ (c : Instr) (bytes extra : List Byte) (now : Instant), c.wellFormed = true → encodePort c = some bytes →
    (∀ n, c ≠ .join n) →
    decodePort now (bytes ++ extra) = some c ∧ (∀ k, k < bytes.length → decodePort now (bytes.take k) = none) ∧
      decodePort now (0x0A :: extra) = some (.join now)

/-! ### What every step keeps -/

/-- R158: the states, sizes and close order of the two halves. -/
def Obligations.EveryStepKeepsTheHalvesLaw : Prop :=
  ∀ s t : State, s.du.wf = true → step s = .next t → t.du.wf = true

/-- R145: 24 places, at most 12 records in flight. -/
def Obligations.EveryStepKeepsTheTransportLaw : Prop :=
  ∀ s t : State, s.rt.wf → step s = .next t → t.rt.wf

/-- What each block holds agrees with the station state (R1, R20, R42, R51, R58, R178), and the counts of receive errors, FOREIGN and INCONSISTENT frames (R51) and of refused joins (R72) stay within 255. -/
def Obligations.EveryStepKeepsBlocksAgreeing : Prop :=
  ∀ s t : State, step s = .next t → (s.agrees → t.agrees) ∧ (s.countsBounded → t.countsBounded)

/-- R110: the pending set never holds both HALT_REQ and RESUME_REQ, and is empty outside MEMBER. -/
def Obligations.EveryStepKeepsThePendingSetLaw : Prop :=
  ∀ s t : State, s.agrees → s.pendingSetOk → step s = .next t → t.pendingSetOk

/-- R2, R117: the roster and queue laws of the image held and of the cycle-start copy. -/
def Obligations.EveryStepKeepsTheImageLaws : Prop :=
  ∀ s t : State, s.agrees → s.imagesOk → step s = .next t → t.imagesOk

/-- State.reset is the state after a power-on reset, with an empty queue, and it obeys the laws that every step keeps. -/
def Obligations.ResetStateHasResetValuesAndLaws : Prop :=
  (State.reset.hasResetValues ∧ State.reset.rc.cause = .powerOn ∧ State.reset.rc.hold = .powerOnDelay ∧
      State.reset.pending = []) ∧
    State.reset.du.wf = true ∧ State.reset.rt.wf ∧ State.reset.agrees ∧ State.reset.countsBounded ∧
      State.reset.pendingSetOk ∧ State.reset.imagesOk
end

