-- ==== Sys2Proof/Laws/State.lean ====
section
/-! SUPPORT. What each update of State does to each field: one lemma per field and update, so that no proof unfolds a record update. -/

namespace Sys2Proof.Machine

variable (s : State)

/-! setSc -/
@[simp] theorem State.setSc_sc (x : StationController) : (s.setSc x).sc = x := rfl
@[simp] theorem State.setSc_iu (x : StationController) : (s.setSc x).iu = s.iu := rfl
@[simp] theorem State.setSc_ct (x : StationController) : (s.setSc x).ct = s.ct := rfl
@[simp] theorem State.setSc_ti (x : StationController) : (s.setSc x).ti = s.ti := rfl
@[simp] theorem State.setSc_cb (x : StationController) : (s.setSc x).cb = s.cb := rfl
@[simp] theorem State.setSc_sq (x : StationController) : (s.setSc x).sq = s.sq := rfl
@[simp] theorem State.setSc_rm (x : StationController) : (s.setSc x).rm = s.rm := rfl
@[simp] theorem State.setSc_rt (x : StationController) : (s.setSc x).rt = s.rt := rfl
@[simp] theorem State.setSc_du (x : StationController) : (s.setSc x).du = s.du := rfl
@[simp] theorem State.setSc_cp (x : StationController) : (s.setSc x).cp = s.cp := rfl
@[simp] theorem State.setSc_halt (x : StationController) : (s.setSc x).halt = s.halt := rfl
@[simp] theorem State.setSc_rc (x : StationController) : (s.setSc x).rc = s.rc := rfl
@[simp] theorem State.setSc_ld (x : StationController) : (s.setSc x).ld = s.ld := rfl
@[simp] theorem State.setSc_cfg (x : StationController) : (s.setSc x).cfg = s.cfg := rfl
@[simp] theorem State.setSc_free (x : StationController) : (s.setSc x).free = s.free := rfl
@[simp] theorem State.setSc_pending (x : StationController) : (s.setSc x).pending = s.pending := rfl
@[simp] theorem State.setSc_same : s.setSc s.sc = s := rfl
@[simp] theorem State.setSc_setSc (x y : StationController) : (s.setSc x).setSc y = s.setSc y := rfl

/-! setIu -/
@[simp] theorem State.setIu_sc (x : ImageUnit) : (s.setIu x).sc = s.sc := rfl
@[simp] theorem State.setIu_iu (x : ImageUnit) : (s.setIu x).iu = x := rfl
@[simp] theorem State.setIu_ct (x : ImageUnit) : (s.setIu x).ct = s.ct := rfl
@[simp] theorem State.setIu_ti (x : ImageUnit) : (s.setIu x).ti = s.ti := rfl
@[simp] theorem State.setIu_cb (x : ImageUnit) : (s.setIu x).cb = s.cb := rfl
@[simp] theorem State.setIu_sq (x : ImageUnit) : (s.setIu x).sq = s.sq := rfl
@[simp] theorem State.setIu_rm (x : ImageUnit) : (s.setIu x).rm = s.rm := rfl
@[simp] theorem State.setIu_rt (x : ImageUnit) : (s.setIu x).rt = s.rt := rfl
@[simp] theorem State.setIu_du (x : ImageUnit) : (s.setIu x).du = s.du := rfl
@[simp] theorem State.setIu_cp (x : ImageUnit) : (s.setIu x).cp = s.cp := rfl
@[simp] theorem State.setIu_halt (x : ImageUnit) : (s.setIu x).halt = s.halt := rfl
@[simp] theorem State.setIu_rc (x : ImageUnit) : (s.setIu x).rc = s.rc := rfl
@[simp] theorem State.setIu_ld (x : ImageUnit) : (s.setIu x).ld = s.ld := rfl
@[simp] theorem State.setIu_cfg (x : ImageUnit) : (s.setIu x).cfg = s.cfg := rfl
@[simp] theorem State.setIu_free (x : ImageUnit) : (s.setIu x).free = s.free := rfl
@[simp] theorem State.setIu_pending (x : ImageUnit) : (s.setIu x).pending = s.pending := rfl
@[simp] theorem State.setIu_same : s.setIu s.iu = s := rfl
@[simp] theorem State.setIu_setIu (x y : ImageUnit) : (s.setIu x).setIu y = s.setIu y := rfl

/-! setCt -/
@[simp] theorem State.setCt_sc (x : CycleTimer) : (s.setCt x).sc = s.sc := rfl
@[simp] theorem State.setCt_iu (x : CycleTimer) : (s.setCt x).iu = s.iu := rfl
@[simp] theorem State.setCt_ct (x : CycleTimer) : (s.setCt x).ct = x := rfl
@[simp] theorem State.setCt_ti (x : CycleTimer) : (s.setCt x).ti = s.ti := rfl
@[simp] theorem State.setCt_cb (x : CycleTimer) : (s.setCt x).cb = s.cb := rfl
@[simp] theorem State.setCt_sq (x : CycleTimer) : (s.setCt x).sq = s.sq := rfl
@[simp] theorem State.setCt_rm (x : CycleTimer) : (s.setCt x).rm = s.rm := rfl
@[simp] theorem State.setCt_rt (x : CycleTimer) : (s.setCt x).rt = s.rt := rfl
@[simp] theorem State.setCt_du (x : CycleTimer) : (s.setCt x).du = s.du := rfl
@[simp] theorem State.setCt_cp (x : CycleTimer) : (s.setCt x).cp = s.cp := rfl
@[simp] theorem State.setCt_halt (x : CycleTimer) : (s.setCt x).halt = s.halt := rfl
@[simp] theorem State.setCt_rc (x : CycleTimer) : (s.setCt x).rc = s.rc := rfl
@[simp] theorem State.setCt_ld (x : CycleTimer) : (s.setCt x).ld = s.ld := rfl
@[simp] theorem State.setCt_cfg (x : CycleTimer) : (s.setCt x).cfg = s.cfg := rfl
@[simp] theorem State.setCt_free (x : CycleTimer) : (s.setCt x).free = s.free := rfl
@[simp] theorem State.setCt_pending (x : CycleTimer) : (s.setCt x).pending = s.pending := rfl
@[simp] theorem State.setCt_same : s.setCt s.ct = s := rfl
@[simp] theorem State.setCt_setCt (x y : CycleTimer) : (s.setCt x).setCt y = s.setCt y := rfl

/-! setTi -/
@[simp] theorem State.setTi_sc (x : TrunkInterface) : (s.setTi x).sc = s.sc := rfl
@[simp] theorem State.setTi_iu (x : TrunkInterface) : (s.setTi x).iu = s.iu := rfl
@[simp] theorem State.setTi_ct (x : TrunkInterface) : (s.setTi x).ct = s.ct := rfl
@[simp] theorem State.setTi_ti (x : TrunkInterface) : (s.setTi x).ti = x := rfl
@[simp] theorem State.setTi_cb (x : TrunkInterface) : (s.setTi x).cb = s.cb := rfl
@[simp] theorem State.setTi_sq (x : TrunkInterface) : (s.setTi x).sq = s.sq := rfl
@[simp] theorem State.setTi_rm (x : TrunkInterface) : (s.setTi x).rm = s.rm := rfl
@[simp] theorem State.setTi_rt (x : TrunkInterface) : (s.setTi x).rt = s.rt := rfl
@[simp] theorem State.setTi_du (x : TrunkInterface) : (s.setTi x).du = s.du := rfl
@[simp] theorem State.setTi_cp (x : TrunkInterface) : (s.setTi x).cp = s.cp := rfl
@[simp] theorem State.setTi_halt (x : TrunkInterface) : (s.setTi x).halt = s.halt := rfl
@[simp] theorem State.setTi_rc (x : TrunkInterface) : (s.setTi x).rc = s.rc := rfl
@[simp] theorem State.setTi_ld (x : TrunkInterface) : (s.setTi x).ld = s.ld := rfl
@[simp] theorem State.setTi_cfg (x : TrunkInterface) : (s.setTi x).cfg = s.cfg := rfl
@[simp] theorem State.setTi_free (x : TrunkInterface) : (s.setTi x).free = s.free := rfl
@[simp] theorem State.setTi_pending (x : TrunkInterface) : (s.setTi x).pending = s.pending := rfl
@[simp] theorem State.setTi_same : s.setTi s.ti = s := rfl
@[simp] theorem State.setTi_setTi (x y : TrunkInterface) : (s.setTi x).setTi y = s.setTi y := rfl

/-! setCb -/
@[simp] theorem State.setCb_sc (x : ItemBuffer) : (s.setCb x).sc = s.sc := rfl
@[simp] theorem State.setCb_iu (x : ItemBuffer) : (s.setCb x).iu = s.iu := rfl
@[simp] theorem State.setCb_ct (x : ItemBuffer) : (s.setCb x).ct = s.ct := rfl
@[simp] theorem State.setCb_ti (x : ItemBuffer) : (s.setCb x).ti = s.ti := rfl
@[simp] theorem State.setCb_cb (x : ItemBuffer) : (s.setCb x).cb = x := rfl
@[simp] theorem State.setCb_sq (x : ItemBuffer) : (s.setCb x).sq = s.sq := rfl
@[simp] theorem State.setCb_rm (x : ItemBuffer) : (s.setCb x).rm = s.rm := rfl
@[simp] theorem State.setCb_rt (x : ItemBuffer) : (s.setCb x).rt = s.rt := rfl
@[simp] theorem State.setCb_du (x : ItemBuffer) : (s.setCb x).du = s.du := rfl
@[simp] theorem State.setCb_cp (x : ItemBuffer) : (s.setCb x).cp = s.cp := rfl
@[simp] theorem State.setCb_halt (x : ItemBuffer) : (s.setCb x).halt = s.halt := rfl
@[simp] theorem State.setCb_rc (x : ItemBuffer) : (s.setCb x).rc = s.rc := rfl
@[simp] theorem State.setCb_ld (x : ItemBuffer) : (s.setCb x).ld = s.ld := rfl
@[simp] theorem State.setCb_cfg (x : ItemBuffer) : (s.setCb x).cfg = s.cfg := rfl
@[simp] theorem State.setCb_free (x : ItemBuffer) : (s.setCb x).free = s.free := rfl
@[simp] theorem State.setCb_pending (x : ItemBuffer) : (s.setCb x).pending = s.pending := rfl
@[simp] theorem State.setCb_same : s.setCb s.cb = s := rfl
@[simp] theorem State.setCb_setCb (x y : ItemBuffer) : (s.setCb x).setCb y = s.setCb y := rfl

/-! setSq -/
@[simp] theorem State.setSq_sc (x : Sequencer) : (s.setSq x).sc = s.sc := rfl
@[simp] theorem State.setSq_iu (x : Sequencer) : (s.setSq x).iu = s.iu := rfl
@[simp] theorem State.setSq_ct (x : Sequencer) : (s.setSq x).ct = s.ct := rfl
@[simp] theorem State.setSq_ti (x : Sequencer) : (s.setSq x).ti = s.ti := rfl
@[simp] theorem State.setSq_cb (x : Sequencer) : (s.setSq x).cb = s.cb := rfl
@[simp] theorem State.setSq_sq (x : Sequencer) : (s.setSq x).sq = x := rfl
@[simp] theorem State.setSq_rm (x : Sequencer) : (s.setSq x).rm = s.rm := rfl
@[simp] theorem State.setSq_rt (x : Sequencer) : (s.setSq x).rt = s.rt := rfl
@[simp] theorem State.setSq_du (x : Sequencer) : (s.setSq x).du = s.du := rfl
@[simp] theorem State.setSq_cp (x : Sequencer) : (s.setSq x).cp = s.cp := rfl
@[simp] theorem State.setSq_halt (x : Sequencer) : (s.setSq x).halt = s.halt := rfl
@[simp] theorem State.setSq_rc (x : Sequencer) : (s.setSq x).rc = s.rc := rfl
@[simp] theorem State.setSq_ld (x : Sequencer) : (s.setSq x).ld = s.ld := rfl
@[simp] theorem State.setSq_cfg (x : Sequencer) : (s.setSq x).cfg = s.cfg := rfl
@[simp] theorem State.setSq_free (x : Sequencer) : (s.setSq x).free = s.free := rfl
@[simp] theorem State.setSq_pending (x : Sequencer) : (s.setSq x).pending = s.pending := rfl
@[simp] theorem State.setSq_same : s.setSq s.sq = s := rfl
@[simp] theorem State.setSq_setSq (x y : Sequencer) : (s.setSq x).setSq y = s.setSq y := rfl

/-! setRm -/
@[simp] theorem State.setRm_sc (x : Byte) : (s.setRm x).sc = s.sc := rfl
@[simp] theorem State.setRm_iu (x : Byte) : (s.setRm x).iu = s.iu := rfl
@[simp] theorem State.setRm_ct (x : Byte) : (s.setRm x).ct = s.ct := rfl
@[simp] theorem State.setRm_ti (x : Byte) : (s.setRm x).ti = s.ti := rfl
@[simp] theorem State.setRm_cb (x : Byte) : (s.setRm x).cb = s.cb := rfl
@[simp] theorem State.setRm_sq (x : Byte) : (s.setRm x).sq = s.sq := rfl
@[simp] theorem State.setRm_rm (x : Byte) : (s.setRm x).rm = x := rfl
@[simp] theorem State.setRm_rt (x : Byte) : (s.setRm x).rt = s.rt := rfl
@[simp] theorem State.setRm_du (x : Byte) : (s.setRm x).du = s.du := rfl
@[simp] theorem State.setRm_cp (x : Byte) : (s.setRm x).cp = s.cp := rfl
@[simp] theorem State.setRm_halt (x : Byte) : (s.setRm x).halt = s.halt := rfl
@[simp] theorem State.setRm_rc (x : Byte) : (s.setRm x).rc = s.rc := rfl
@[simp] theorem State.setRm_ld (x : Byte) : (s.setRm x).ld = s.ld := rfl
@[simp] theorem State.setRm_cfg (x : Byte) : (s.setRm x).cfg = s.cfg := rfl
@[simp] theorem State.setRm_free (x : Byte) : (s.setRm x).free = s.free := rfl
@[simp] theorem State.setRm_pending (x : Byte) : (s.setRm x).pending = s.pending := rfl
@[simp] theorem State.setRm_same : s.setRm s.rm = s := rfl
@[simp] theorem State.setRm_setRm (x y : Byte) : (s.setRm x).setRm y = s.setRm y := rfl

/-! setRt -/
@[simp] theorem State.setRt_sc (x : RecordTransport) : (s.setRt x).sc = s.sc := rfl
@[simp] theorem State.setRt_iu (x : RecordTransport) : (s.setRt x).iu = s.iu := rfl
@[simp] theorem State.setRt_ct (x : RecordTransport) : (s.setRt x).ct = s.ct := rfl
@[simp] theorem State.setRt_ti (x : RecordTransport) : (s.setRt x).ti = s.ti := rfl
@[simp] theorem State.setRt_cb (x : RecordTransport) : (s.setRt x).cb = s.cb := rfl
@[simp] theorem State.setRt_sq (x : RecordTransport) : (s.setRt x).sq = s.sq := rfl
@[simp] theorem State.setRt_rm (x : RecordTransport) : (s.setRt x).rm = s.rm := rfl
@[simp] theorem State.setRt_rt (x : RecordTransport) : (s.setRt x).rt = x := rfl
@[simp] theorem State.setRt_du (x : RecordTransport) : (s.setRt x).du = s.du := rfl
@[simp] theorem State.setRt_cp (x : RecordTransport) : (s.setRt x).cp = s.cp := rfl
@[simp] theorem State.setRt_halt (x : RecordTransport) : (s.setRt x).halt = s.halt := rfl
@[simp] theorem State.setRt_rc (x : RecordTransport) : (s.setRt x).rc = s.rc := rfl
@[simp] theorem State.setRt_ld (x : RecordTransport) : (s.setRt x).ld = s.ld := rfl
@[simp] theorem State.setRt_cfg (x : RecordTransport) : (s.setRt x).cfg = s.cfg := rfl
@[simp] theorem State.setRt_free (x : RecordTransport) : (s.setRt x).free = s.free := rfl
@[simp] theorem State.setRt_pending (x : RecordTransport) : (s.setRt x).pending = s.pending := rfl
@[simp] theorem State.setRt_same : s.setRt s.rt = s := rfl
@[simp] theorem State.setRt_setRt (x y : RecordTransport) : (s.setRt x).setRt y = s.setRt y := rfl

/-! setDu -/
@[simp] theorem State.setDu_sc (x : DeliveryUnit) : (s.setDu x).sc = s.sc := rfl
@[simp] theorem State.setDu_iu (x : DeliveryUnit) : (s.setDu x).iu = s.iu := rfl
@[simp] theorem State.setDu_ct (x : DeliveryUnit) : (s.setDu x).ct = s.ct := rfl
@[simp] theorem State.setDu_ti (x : DeliveryUnit) : (s.setDu x).ti = s.ti := rfl
@[simp] theorem State.setDu_cb (x : DeliveryUnit) : (s.setDu x).cb = s.cb := rfl
@[simp] theorem State.setDu_sq (x : DeliveryUnit) : (s.setDu x).sq = s.sq := rfl
@[simp] theorem State.setDu_rm (x : DeliveryUnit) : (s.setDu x).rm = s.rm := rfl
@[simp] theorem State.setDu_rt (x : DeliveryUnit) : (s.setDu x).rt = s.rt := rfl
@[simp] theorem State.setDu_du (x : DeliveryUnit) : (s.setDu x).du = x := rfl
@[simp] theorem State.setDu_cp (x : DeliveryUnit) : (s.setDu x).cp = s.cp := rfl
@[simp] theorem State.setDu_halt (x : DeliveryUnit) : (s.setDu x).halt = s.halt := rfl
@[simp] theorem State.setDu_rc (x : DeliveryUnit) : (s.setDu x).rc = s.rc := rfl
@[simp] theorem State.setDu_ld (x : DeliveryUnit) : (s.setDu x).ld = s.ld := rfl
@[simp] theorem State.setDu_cfg (x : DeliveryUnit) : (s.setDu x).cfg = s.cfg := rfl
@[simp] theorem State.setDu_free (x : DeliveryUnit) : (s.setDu x).free = s.free := rfl
@[simp] theorem State.setDu_pending (x : DeliveryUnit) : (s.setDu x).pending = s.pending := rfl
@[simp] theorem State.setDu_same : s.setDu s.du = s := rfl
@[simp] theorem State.setDu_setDu (x y : DeliveryUnit) : (s.setDu x).setDu y = s.setDu y := rfl

/-! setCp -/
@[simp] theorem State.setCp_sc (x : CollectorPort) : (s.setCp x).sc = s.sc := rfl
@[simp] theorem State.setCp_iu (x : CollectorPort) : (s.setCp x).iu = s.iu := rfl
@[simp] theorem State.setCp_ct (x : CollectorPort) : (s.setCp x).ct = s.ct := rfl
@[simp] theorem State.setCp_ti (x : CollectorPort) : (s.setCp x).ti = s.ti := rfl
@[simp] theorem State.setCp_cb (x : CollectorPort) : (s.setCp x).cb = s.cb := rfl
@[simp] theorem State.setCp_sq (x : CollectorPort) : (s.setCp x).sq = s.sq := rfl
@[simp] theorem State.setCp_rm (x : CollectorPort) : (s.setCp x).rm = s.rm := rfl
@[simp] theorem State.setCp_rt (x : CollectorPort) : (s.setCp x).rt = s.rt := rfl
@[simp] theorem State.setCp_du (x : CollectorPort) : (s.setCp x).du = s.du := rfl
@[simp] theorem State.setCp_cp (x : CollectorPort) : (s.setCp x).cp = x := rfl
@[simp] theorem State.setCp_halt (x : CollectorPort) : (s.setCp x).halt = s.halt := rfl
@[simp] theorem State.setCp_rc (x : CollectorPort) : (s.setCp x).rc = s.rc := rfl
@[simp] theorem State.setCp_ld (x : CollectorPort) : (s.setCp x).ld = s.ld := rfl
@[simp] theorem State.setCp_cfg (x : CollectorPort) : (s.setCp x).cfg = s.cfg := rfl
@[simp] theorem State.setCp_free (x : CollectorPort) : (s.setCp x).free = s.free := rfl
@[simp] theorem State.setCp_pending (x : CollectorPort) : (s.setCp x).pending = s.pending := rfl
@[simp] theorem State.setCp_same : s.setCp s.cp = s := rfl
@[simp] theorem State.setCp_setCp (x y : CollectorPort) : (s.setCp x).setCp y = s.setCp y := rfl

/-! setHalt -/
@[simp] theorem State.setHalt_sc (x : HaltReport) : (s.setHalt x).sc = s.sc := rfl
@[simp] theorem State.setHalt_iu (x : HaltReport) : (s.setHalt x).iu = s.iu := rfl
@[simp] theorem State.setHalt_ct (x : HaltReport) : (s.setHalt x).ct = s.ct := rfl
@[simp] theorem State.setHalt_ti (x : HaltReport) : (s.setHalt x).ti = s.ti := rfl
@[simp] theorem State.setHalt_cb (x : HaltReport) : (s.setHalt x).cb = s.cb := rfl
@[simp] theorem State.setHalt_sq (x : HaltReport) : (s.setHalt x).sq = s.sq := rfl
@[simp] theorem State.setHalt_rm (x : HaltReport) : (s.setHalt x).rm = s.rm := rfl
@[simp] theorem State.setHalt_rt (x : HaltReport) : (s.setHalt x).rt = s.rt := rfl
@[simp] theorem State.setHalt_du (x : HaltReport) : (s.setHalt x).du = s.du := rfl
@[simp] theorem State.setHalt_cp (x : HaltReport) : (s.setHalt x).cp = s.cp := rfl
@[simp] theorem State.setHalt_halt (x : HaltReport) : (s.setHalt x).halt = x := rfl
@[simp] theorem State.setHalt_rc (x : HaltReport) : (s.setHalt x).rc = s.rc := rfl
@[simp] theorem State.setHalt_ld (x : HaltReport) : (s.setHalt x).ld = s.ld := rfl
@[simp] theorem State.setHalt_cfg (x : HaltReport) : (s.setHalt x).cfg = s.cfg := rfl
@[simp] theorem State.setHalt_free (x : HaltReport) : (s.setHalt x).free = s.free := rfl
@[simp] theorem State.setHalt_pending (x : HaltReport) : (s.setHalt x).pending = s.pending := rfl
@[simp] theorem State.setHalt_same : s.setHalt s.halt = s := rfl
@[simp] theorem State.setHalt_setHalt (x y : HaltReport) : (s.setHalt x).setHalt y = s.setHalt y := rfl

/-! setRc -/
@[simp] theorem State.setRc_sc (x : ResetControl) : (s.setRc x).sc = s.sc := rfl
@[simp] theorem State.setRc_iu (x : ResetControl) : (s.setRc x).iu = s.iu := rfl
@[simp] theorem State.setRc_ct (x : ResetControl) : (s.setRc x).ct = s.ct := rfl
@[simp] theorem State.setRc_ti (x : ResetControl) : (s.setRc x).ti = s.ti := rfl
@[simp] theorem State.setRc_cb (x : ResetControl) : (s.setRc x).cb = s.cb := rfl
@[simp] theorem State.setRc_sq (x : ResetControl) : (s.setRc x).sq = s.sq := rfl
@[simp] theorem State.setRc_rm (x : ResetControl) : (s.setRc x).rm = s.rm := rfl
@[simp] theorem State.setRc_rt (x : ResetControl) : (s.setRc x).rt = s.rt := rfl
@[simp] theorem State.setRc_du (x : ResetControl) : (s.setRc x).du = s.du := rfl
@[simp] theorem State.setRc_cp (x : ResetControl) : (s.setRc x).cp = s.cp := rfl
@[simp] theorem State.setRc_halt (x : ResetControl) : (s.setRc x).halt = s.halt := rfl
@[simp] theorem State.setRc_rc (x : ResetControl) : (s.setRc x).rc = x := rfl
@[simp] theorem State.setRc_ld (x : ResetControl) : (s.setRc x).ld = s.ld := rfl
@[simp] theorem State.setRc_cfg (x : ResetControl) : (s.setRc x).cfg = s.cfg := rfl
@[simp] theorem State.setRc_free (x : ResetControl) : (s.setRc x).free = s.free := rfl
@[simp] theorem State.setRc_pending (x : ResetControl) : (s.setRc x).pending = s.pending := rfl
@[simp] theorem State.setRc_same : s.setRc s.rc = s := rfl
@[simp] theorem State.setRc_setRc (x y : ResetControl) : (s.setRc x).setRc y = s.setRc y := rfl

/-! setLd -/
@[simp] theorem State.setLd_sc (x : Loader) : (s.setLd x).sc = s.sc := rfl
@[simp] theorem State.setLd_iu (x : Loader) : (s.setLd x).iu = s.iu := rfl
@[simp] theorem State.setLd_ct (x : Loader) : (s.setLd x).ct = s.ct := rfl
@[simp] theorem State.setLd_ti (x : Loader) : (s.setLd x).ti = s.ti := rfl
@[simp] theorem State.setLd_cb (x : Loader) : (s.setLd x).cb = s.cb := rfl
@[simp] theorem State.setLd_sq (x : Loader) : (s.setLd x).sq = s.sq := rfl
@[simp] theorem State.setLd_rm (x : Loader) : (s.setLd x).rm = s.rm := rfl
@[simp] theorem State.setLd_rt (x : Loader) : (s.setLd x).rt = s.rt := rfl
@[simp] theorem State.setLd_du (x : Loader) : (s.setLd x).du = s.du := rfl
@[simp] theorem State.setLd_cp (x : Loader) : (s.setLd x).cp = s.cp := rfl
@[simp] theorem State.setLd_halt (x : Loader) : (s.setLd x).halt = s.halt := rfl
@[simp] theorem State.setLd_rc (x : Loader) : (s.setLd x).rc = s.rc := rfl
@[simp] theorem State.setLd_ld (x : Loader) : (s.setLd x).ld = x := rfl
@[simp] theorem State.setLd_cfg (x : Loader) : (s.setLd x).cfg = s.cfg := rfl
@[simp] theorem State.setLd_free (x : Loader) : (s.setLd x).free = s.free := rfl
@[simp] theorem State.setLd_pending (x : Loader) : (s.setLd x).pending = s.pending := rfl
@[simp] theorem State.setLd_same : s.setLd s.ld = s := rfl
@[simp] theorem State.setLd_setLd (x y : Loader) : (s.setLd x).setLd y = s.setLd y := rfl

/-! setCfg -/
@[simp] theorem State.setCfg_sc (x : Option StationConfig) : (s.setCfg x).sc = s.sc := rfl
@[simp] theorem State.setCfg_iu (x : Option StationConfig) : (s.setCfg x).iu = s.iu := rfl
@[simp] theorem State.setCfg_ct (x : Option StationConfig) : (s.setCfg x).ct = s.ct := rfl
@[simp] theorem State.setCfg_ti (x : Option StationConfig) : (s.setCfg x).ti = s.ti := rfl
@[simp] theorem State.setCfg_cb (x : Option StationConfig) : (s.setCfg x).cb = s.cb := rfl
@[simp] theorem State.setCfg_sq (x : Option StationConfig) : (s.setCfg x).sq = s.sq := rfl
@[simp] theorem State.setCfg_rm (x : Option StationConfig) : (s.setCfg x).rm = s.rm := rfl
@[simp] theorem State.setCfg_rt (x : Option StationConfig) : (s.setCfg x).rt = s.rt := rfl
@[simp] theorem State.setCfg_du (x : Option StationConfig) : (s.setCfg x).du = s.du := rfl
@[simp] theorem State.setCfg_cp (x : Option StationConfig) : (s.setCfg x).cp = s.cp := rfl
@[simp] theorem State.setCfg_halt (x : Option StationConfig) : (s.setCfg x).halt = s.halt := rfl
@[simp] theorem State.setCfg_rc (x : Option StationConfig) : (s.setCfg x).rc = s.rc := rfl
@[simp] theorem State.setCfg_ld (x : Option StationConfig) : (s.setCfg x).ld = s.ld := rfl
@[simp] theorem State.setCfg_cfg (x : Option StationConfig) : (s.setCfg x).cfg = x := rfl
@[simp] theorem State.setCfg_free (x : Option StationConfig) : (s.setCfg x).free = s.free := rfl
@[simp] theorem State.setCfg_pending (x : Option StationConfig) : (s.setCfg x).pending = s.pending := rfl
@[simp] theorem State.setCfg_same : s.setCfg s.cfg = s := rfl
@[simp] theorem State.setCfg_setCfg (x y : Option StationConfig) : (s.setCfg x).setCfg y = s.setCfg y := rfl

/-! setFree -/
@[simp] theorem State.setFree_sc (x : Nat) : (s.setFree x).sc = s.sc := rfl
@[simp] theorem State.setFree_iu (x : Nat) : (s.setFree x).iu = s.iu := rfl
@[simp] theorem State.setFree_ct (x : Nat) : (s.setFree x).ct = s.ct := rfl
@[simp] theorem State.setFree_ti (x : Nat) : (s.setFree x).ti = s.ti := rfl
@[simp] theorem State.setFree_cb (x : Nat) : (s.setFree x).cb = s.cb := rfl
@[simp] theorem State.setFree_sq (x : Nat) : (s.setFree x).sq = s.sq := rfl
@[simp] theorem State.setFree_rm (x : Nat) : (s.setFree x).rm = s.rm := rfl
@[simp] theorem State.setFree_rt (x : Nat) : (s.setFree x).rt = s.rt := rfl
@[simp] theorem State.setFree_du (x : Nat) : (s.setFree x).du = s.du := rfl
@[simp] theorem State.setFree_cp (x : Nat) : (s.setFree x).cp = s.cp := rfl
@[simp] theorem State.setFree_halt (x : Nat) : (s.setFree x).halt = s.halt := rfl
@[simp] theorem State.setFree_rc (x : Nat) : (s.setFree x).rc = s.rc := rfl
@[simp] theorem State.setFree_ld (x : Nat) : (s.setFree x).ld = s.ld := rfl
@[simp] theorem State.setFree_cfg (x : Nat) : (s.setFree x).cfg = s.cfg := rfl
@[simp] theorem State.setFree_free (x : Nat) : (s.setFree x).free = x := rfl
@[simp] theorem State.setFree_pending (x : Nat) : (s.setFree x).pending = s.pending := rfl
@[simp] theorem State.setFree_same : s.setFree s.free = s := rfl
@[simp] theorem State.setFree_setFree (x y : Nat) : (s.setFree x).setFree y = s.setFree y := rfl

/-! setPending -/
@[simp] theorem State.setPending_sc (x : List Instr) : (s.setPending x).sc = s.sc := rfl
@[simp] theorem State.setPending_iu (x : List Instr) : (s.setPending x).iu = s.iu := rfl
@[simp] theorem State.setPending_ct (x : List Instr) : (s.setPending x).ct = s.ct := rfl
@[simp] theorem State.setPending_ti (x : List Instr) : (s.setPending x).ti = s.ti := rfl
@[simp] theorem State.setPending_cb (x : List Instr) : (s.setPending x).cb = s.cb := rfl
@[simp] theorem State.setPending_sq (x : List Instr) : (s.setPending x).sq = s.sq := rfl
@[simp] theorem State.setPending_rm (x : List Instr) : (s.setPending x).rm = s.rm := rfl
@[simp] theorem State.setPending_rt (x : List Instr) : (s.setPending x).rt = s.rt := rfl
@[simp] theorem State.setPending_du (x : List Instr) : (s.setPending x).du = s.du := rfl
@[simp] theorem State.setPending_cp (x : List Instr) : (s.setPending x).cp = s.cp := rfl
@[simp] theorem State.setPending_halt (x : List Instr) : (s.setPending x).halt = s.halt := rfl
@[simp] theorem State.setPending_rc (x : List Instr) : (s.setPending x).rc = s.rc := rfl
@[simp] theorem State.setPending_ld (x : List Instr) : (s.setPending x).ld = s.ld := rfl
@[simp] theorem State.setPending_cfg (x : List Instr) : (s.setPending x).cfg = s.cfg := rfl
@[simp] theorem State.setPending_free (x : List Instr) : (s.setPending x).free = s.free := rfl
@[simp] theorem State.setPending_pending (x : List Instr) : (s.setPending x).pending = x := rfl
@[simp] theorem State.setPending_same : s.setPending s.pending = s := rfl
@[simp] theorem State.setPending_setPending (x y : List Instr) : (s.setPending x).setPending y = s.setPending y := rfl

end Sys2Proof.Machine
end

