-- ==== Sys2Proof/Laws/OpsUnchanged.lean ====
section
/-! SUPPORT. What the shared operations leave unchanged: for each operation, the fields of State that it never writes. -/

namespace Sys2Proof.Machine

variable (s : State)

@[simp] theorem State.raise_unchanged (f : EventFlag) :
    (s.raise f).sc = s.sc ∧ (s.raise f).iu = s.iu ∧ (s.raise f).ct = s.ct ∧ (s.raise f).ti = s.ti ∧
    (s.raise f).cb = s.cb ∧ (s.raise f).sq = s.sq ∧ (s.raise f).rm = s.rm ∧ (s.raise f).rt = s.rt ∧
    (s.raise f).du = s.du ∧ (s.raise f).halt = s.halt ∧ (s.raise f).rc = s.rc ∧ (s.raise f).ld = s.ld ∧
    (s.raise f).cfg = s.cfg ∧ (s.raise f).free = s.free ∧ (s.raise f).pending = s.pending := by
  unfold State.raise
  (try dsimp only)
  (repeat' split) <;> simp

@[simp] theorem State.postRequest_unchanged (cause : Cause) (total : Nat) :
    (s.postRequest cause total).sc = s.sc ∧ (s.postRequest cause total).iu = s.iu ∧
    (s.postRequest cause total).ct = s.ct ∧ (s.postRequest cause total).ti = s.ti ∧
    (s.postRequest cause total).sq = s.sq ∧ (s.postRequest cause total).rm = s.rm ∧
    (s.postRequest cause total).rt = s.rt ∧ (s.postRequest cause total).du = s.du ∧
    (s.postRequest cause total).cp = s.cp ∧ (s.postRequest cause total).halt = s.halt ∧
    (s.postRequest cause total).rc = s.rc ∧ (s.postRequest cause total).ld = s.ld ∧
    (s.postRequest cause total).cfg = s.cfg ∧ (s.postRequest cause total).free = s.free ∧
    (s.postRequest cause total).pending = s.pending := by
  unfold State.postRequest
  (try dsimp only)
  (repeat' split) <;> simp

@[simp] theorem State.refuse_unchanged (reason : RefusalReason) (serial : Byte) :
    (s.refuse reason serial).sc = s.sc ∧ (s.refuse reason serial).iu = s.iu ∧ (s.refuse reason serial).ct = s.ct ∧
    (s.refuse reason serial).ti = s.ti ∧ (s.refuse reason serial).cb = s.cb ∧ (s.refuse reason serial).sq = s.sq ∧
    (s.refuse reason serial).rm = s.rm ∧ (s.refuse reason serial).rt = s.rt ∧ (s.refuse reason serial).du = s.du ∧
    (s.refuse reason serial).halt = s.halt ∧ (s.refuse reason serial).rc = s.rc ∧ (s.refuse reason serial).ld = s.ld ∧
    (s.refuse reason serial).cfg = s.cfg ∧ (s.refuse reason serial).free = s.free ∧
    (s.refuse reason serial).pending = s.pending := by
  unfold State.refuse
  (try dsimp only)
  (repeat' split) <;> simp

@[simp] theorem State.leaveMember_unchanged :
    (s.leaveMember).ct = s.ct ∧ (s.leaveMember).rm = s.rm ∧ (s.leaveMember).du = s.du ∧ (s.leaveMember).cp = s.cp ∧
    (s.leaveMember).rc = s.rc ∧ (s.leaveMember).ld = s.ld ∧ (s.leaveMember).cfg = s.cfg ∧
    (s.leaveMember).free = s.free ∧ (s.leaveMember).pending = s.pending := by
  unfold State.leaveMember
  (try dsimp only)
  (repeat' split) <;> simp

@[simp] theorem State.offTrunk_unchanged :
    (s.offTrunk).sc = s.sc ∧ (s.offTrunk).cb = s.cb ∧ (s.offTrunk).sq = s.sq ∧ (s.offTrunk).rm = s.rm ∧
    (s.offTrunk).rt = s.rt ∧ (s.offTrunk).du = s.du ∧ (s.offTrunk).cp = s.cp ∧ (s.offTrunk).halt = s.halt ∧
    (s.offTrunk).rc = s.rc ∧ (s.offTrunk).ld = s.ld ∧ (s.offTrunk).cfg = s.cfg ∧ (s.offTrunk).free = s.free ∧
    (s.offTrunk).pending = s.pending := by
  unfold State.offTrunk
  (try dsimp only)
  (repeat' split) <;> simp

@[simp] theorem State.enterIdle_unchanged :
    (s.enterIdle).cb = s.cb ∧ (s.enterIdle).sq = s.sq ∧ (s.enterIdle).rm = s.rm ∧ (s.enterIdle).rt = s.rt ∧
    (s.enterIdle).du = s.du ∧ (s.enterIdle).cp = s.cp ∧ (s.enterIdle).halt = s.halt ∧ (s.enterIdle).rc = s.rc ∧
    (s.enterIdle).ld = s.ld ∧ (s.enterIdle).cfg = s.cfg ∧ (s.enterIdle).free = s.free ∧
    (s.enterIdle).pending = s.pending := by
  unfold State.enterIdle
  (try dsimp only)
  (repeat' split) <;> simp

@[simp] theorem State.enterFault_unchanged (reason : FaultReason) :
    (s.enterFault reason).rm = s.rm ∧ (s.enterFault reason).du = s.du ∧ (s.enterFault reason).rc = s.rc ∧
    (s.enterFault reason).ld = s.ld ∧ (s.enterFault reason).cfg = s.cfg ∧ (s.enterFault reason).free = s.free ∧
    (s.enterFault reason).pending = s.pending := by
  unfold State.enterFault
  (try dsimp only)
  (repeat' split) <;> simp

@[simp] theorem State.listenUntimed_unchanged (c : StationConfig) (now : Instant) :
    (s.listenUntimed c now).ti = s.ti ∧ (s.listenUntimed c now).cb = s.cb ∧ (s.listenUntimed c now).sq = s.sq ∧
    (s.listenUntimed c now).rm = s.rm ∧ (s.listenUntimed c now).rt = s.rt ∧ (s.listenUntimed c now).du = s.du ∧
    (s.listenUntimed c now).cp = s.cp ∧ (s.listenUntimed c now).halt = s.halt ∧ (s.listenUntimed c now).rc = s.rc ∧
    (s.listenUntimed c now).ld = s.ld ∧ (s.listenUntimed c now).cfg = s.cfg ∧ (s.listenUntimed c now).free = s.free ∧
    (s.listenUntimed c now).pending = s.pending := by
  unfold State.listenUntimed
  (try dsimp only)
  (repeat' split) <;> simp

end Sys2Proof.Machine
end

