-- ==== Sys2Proof/Laws/DeliveryUnchanged.lean ====
section
/-! SUPPORT. What acceptance and delivery leave unchanged: for each operation, the fields of State that it never writes. -/

namespace Sys2Proof.Machine

variable (s : State)

@[simp] theorem State.closeHalf_unchanged (h : HalfId) (cause : CloseCause) :
    (s.closeHalf h cause).sc = s.sc ∧ (s.closeHalf h cause).iu = s.iu ∧ (s.closeHalf h cause).ct = s.ct ∧
    (s.closeHalf h cause).ti = s.ti ∧ (s.closeHalf h cause).cb = s.cb ∧ (s.closeHalf h cause).sq = s.sq ∧
    (s.closeHalf h cause).rm = s.rm ∧ (s.closeHalf h cause).rt = s.rt ∧ (s.closeHalf h cause).halt = s.halt ∧
    (s.closeHalf h cause).rc = s.rc ∧ (s.closeHalf h cause).ld = s.ld ∧ (s.closeHalf h cause).cfg = s.cfg ∧
    (s.closeHalf h cause).free = s.free ∧ (s.closeHalf h cause).pending = s.pending := by
  unfold State.closeHalf
  (try dsimp only)
  (repeat' split) <;> simp

@[simp] theorem State.placeIn_unchanged (h : HalfId) (origin : StationId) (r : Record) :
    (s.placeIn h origin r).sc = s.sc ∧ (s.placeIn h origin r).iu = s.iu ∧ (s.placeIn h origin r).ct = s.ct ∧
    (s.placeIn h origin r).ti = s.ti ∧ (s.placeIn h origin r).cb = s.cb ∧ (s.placeIn h origin r).sq = s.sq ∧
    (s.placeIn h origin r).rm = s.rm ∧ (s.placeIn h origin r).rt = s.rt ∧ (s.placeIn h origin r).halt = s.halt ∧
    (s.placeIn h origin r).rc = s.rc ∧ (s.placeIn h origin r).ld = s.ld ∧ (s.placeIn h origin r).cfg = s.cfg ∧
    (s.placeIn h origin r).free = s.free ∧ (s.placeIn h origin r).pending = s.pending := by
  unfold State.placeIn
  (try dsimp only)
  (repeat' split) <;> simp

@[simp] theorem State.dropRecord_unchanged :
    (s.dropRecord).sc = s.sc ∧ (s.dropRecord).iu = s.iu ∧ (s.dropRecord).ct = s.ct ∧ (s.dropRecord).ti = s.ti ∧
    (s.dropRecord).cb = s.cb ∧ (s.dropRecord).sq = s.sq ∧ (s.dropRecord).rm = s.rm ∧ (s.dropRecord).rt = s.rt ∧
    (s.dropRecord).halt = s.halt ∧ (s.dropRecord).rc = s.rc ∧ (s.dropRecord).ld = s.ld ∧ (s.dropRecord).cfg = s.cfg ∧
    (s.dropRecord).free = s.free ∧ (s.dropRecord).pending = s.pending := by
  unfold State.dropRecord
  (try dsimp only)
  (repeat' split) <;> simp

@[simp] theorem State.deliver_unchanged (origin : StationId) (r : Record) :
    (s.deliver origin r).sc = s.sc ∧ (s.deliver origin r).iu = s.iu ∧ (s.deliver origin r).ct = s.ct ∧
    (s.deliver origin r).ti = s.ti ∧ (s.deliver origin r).cb = s.cb ∧ (s.deliver origin r).sq = s.sq ∧
    (s.deliver origin r).rm = s.rm ∧ (s.deliver origin r).rt = s.rt ∧ (s.deliver origin r).halt = s.halt ∧
    (s.deliver origin r).rc = s.rc ∧ (s.deliver origin r).ld = s.ld ∧ (s.deliver origin r).cfg = s.cfg ∧
    (s.deliver origin r).free = s.free ∧ (s.deliver origin r).pending = s.pending := by
  unfold State.deliver
  (try dsimp only)
  (repeat' split) <;> simp

@[simp] theorem State.ageHalf_unchanged (c : StationConfig) :
    (s.ageHalf c).sc = s.sc ∧ (s.ageHalf c).iu = s.iu ∧ (s.ageHalf c).ct = s.ct ∧ (s.ageHalf c).ti = s.ti ∧
    (s.ageHalf c).cb = s.cb ∧ (s.ageHalf c).sq = s.sq ∧ (s.ageHalf c).rm = s.rm ∧ (s.ageHalf c).rt = s.rt ∧
    (s.ageHalf c).halt = s.halt ∧ (s.ageHalf c).rc = s.rc ∧ (s.ageHalf c).ld = s.ld ∧ (s.ageHalf c).cfg = s.cfg ∧
    (s.ageHalf c).pending = s.pending := by
  unfold State.ageHalf
  (try dsimp only)
  (repeat' split) <;> simp

@[simp] theorem State.handOver_unchanged (c : StationConfig) (origin : StationId) (records : List Record) :
    (s.handOver c origin records).sc = s.sc ∧ (s.handOver c origin records).iu = s.iu ∧
    (s.handOver c origin records).ct = s.ct ∧ (s.handOver c origin records).ti = s.ti ∧
    (s.handOver c origin records).cb = s.cb ∧ (s.handOver c origin records).sq = s.sq ∧
    (s.handOver c origin records).rm = s.rm ∧ (s.handOver c origin records).rt = s.rt ∧
    (s.handOver c origin records).halt = s.halt ∧ (s.handOver c origin records).rc = s.rc ∧
    (s.handOver c origin records).ld = s.ld ∧ (s.handOver c origin records).cfg = s.cfg ∧
    (s.handOver c origin records).free = s.free ∧ (s.handOver c origin records).pending = s.pending := by
  unfold State.handOver
  generalize records.filter (accepts c origin) = l
  induction l generalizing s with
  | nil => simp
  | cons r l ih => simp [ih]

end Sys2Proof.Machine
end

