-- ==== Sys2Proof/Laws/CycleUnchanged.lean ====
section
/-! SUPPORT. What the trunk cycle leave unchanged: for each operation, the fields of State that it never writes. -/

namespace Sys2Proof.Machine

variable (s : State)

@[simp] theorem State.judged_unchanged (c : StationConfig) (m : Image) :
    (s.judged c m).sc = s.sc ∧ (s.judged c m).iu = s.iu ∧ (s.judged c m).ct = s.ct ∧ (s.judged c m).ti = s.ti ∧
    (s.judged c m).sq = s.sq ∧ (s.judged c m).rm = s.rm ∧ (s.judged c m).rt = s.rt ∧ (s.judged c m).du = s.du ∧
    (s.judged c m).cp = s.cp ∧ (s.judged c m).halt = s.halt ∧ (s.judged c m).rc = s.rc ∧ (s.judged c m).ld = s.ld ∧
    (s.judged c m).cfg = s.cfg ∧ (s.judged c m).free = s.free ∧ (s.judged c m).pending = s.pending := by
  unfold State.judged
  (try dsimp only)
  (repeat' split) <;> simp

@[simp] theorem State.assembleBeat_unchanged (c : StationConfig) (now : Instant) :
    (s.assembleBeat c now).sc = s.sc ∧ (s.assembleBeat c now).iu = s.iu ∧ (s.assembleBeat c now).ct = s.ct ∧
    (s.assembleBeat c now).sq = s.sq ∧ (s.assembleBeat c now).rm = s.rm ∧ (s.assembleBeat c now).du = s.du ∧
    (s.assembleBeat c now).cp = s.cp ∧ (s.assembleBeat c now).halt = s.halt ∧ (s.assembleBeat c now).rc = s.rc ∧
    (s.assembleBeat c now).ld = s.ld ∧ (s.assembleBeat c now).cfg = s.cfg ∧ (s.assembleBeat c now).free = s.free ∧
    (s.assembleBeat c now).pending = s.pending := by
  unfold State.assembleBeat
  (try dsimp only)
  (repeat' split) <;> simp

@[simp] theorem State.slotBegins_unchanged (c : StationConfig) (now : Instant) :
    (s.slotBegins c now).sc = s.sc ∧ (s.slotBegins c now).iu = s.iu ∧ (s.slotBegins c now).sq = s.sq ∧
    (s.slotBegins c now).rm = s.rm ∧ (s.slotBegins c now).du = s.du ∧ (s.slotBegins c now).cp = s.cp ∧
    (s.slotBegins c now).halt = s.halt ∧ (s.slotBegins c now).rc = s.rc ∧ (s.slotBegins c now).ld = s.ld ∧
    (s.slotBegins c now).cfg = s.cfg ∧ (s.slotBegins c now).free = s.free ∧ (s.slotBegins c now).pending = s.pending := by
  unfold State.slotBegins
  (try dsimp only)
  (repeat' split) <;> simp

@[simp] theorem State.judgeJoin_unchanged (c : StationConfig) (now : Instant) :
    (s.judgeJoin c now).rm = s.rm ∧ (s.judgeJoin c now).du = s.du ∧ (s.judgeJoin c now).rc = s.rc ∧
    (s.judgeJoin c now).ld = s.ld ∧ (s.judgeJoin c now).cfg = s.cfg ∧ (s.judgeJoin c now).free = s.free ∧
    (s.judgeJoin c now).pending = s.pending := by
  unfold State.judgeJoin
  (try dsimp only)
  (repeat' split) <;> simp

@[simp] theorem State.windowOpens_unchanged (c : StationConfig) (now : Instant) :
    (s.windowOpens c now).rm = s.rm ∧ (s.windowOpens c now).du = s.du ∧ (s.windowOpens c now).rc = s.rc ∧
    (s.windowOpens c now).ld = s.ld ∧ (s.windowOpens c now).cfg = s.cfg ∧ (s.windowOpens c now).free = s.free ∧
    (s.windowOpens c now).pending = s.pending := by
  unfold State.windowOpens
  (try dsimp only)
  (repeat' split) <;> simp

@[simp] theorem State.movePointer_unchanged (c : StationConfig) (now : Instant) (p : Nat) :
    (s.movePointer c now p).rm = s.rm ∧ (s.movePointer c now p).du = s.du ∧ (s.movePointer c now p).rc = s.rc ∧
    (s.movePointer c now p).ld = s.ld ∧ (s.movePointer c now p).cfg = s.cfg ∧ (s.movePointer c now p).free = s.free ∧
    (s.movePointer c now p).pending = s.pending := by
  unfold State.movePointer
  (try dsimp only)
  (repeat' split) <;> simp

@[simp] theorem State.openCycle_unchanged (c : StationConfig) (now : Instant) (byFrame : Bool) :
    (s.openCycle c now byFrame).sc = s.sc ∧ (s.openCycle c now byFrame).iu = s.iu ∧
    (s.openCycle c now byFrame).sq = s.sq ∧ (s.openCycle c now byFrame).rm = s.rm ∧
    (s.openCycle c now byFrame).du = s.du ∧ (s.openCycle c now byFrame).cp = s.cp ∧
    (s.openCycle c now byFrame).halt = s.halt ∧ (s.openCycle c now byFrame).rc = s.rc ∧
    (s.openCycle c now byFrame).ld = s.ld ∧ (s.openCycle c now byFrame).cfg = s.cfg ∧
    (s.openCycle c now byFrame).free = s.free ∧ (s.openCycle c now byFrame).pending = s.pending := by
  unfold State.openCycle
  (try dsimp only)
  (repeat' split) <;> simp

@[simp] theorem State.senderPositionDrawn_unchanged (m : Image) (sender : StationId) :
    (s.senderPositionDrawn m sender).sc = s.sc ∧ (s.senderPositionDrawn m sender).iu = s.iu ∧
    (s.senderPositionDrawn m sender).ct = s.ct ∧ (s.senderPositionDrawn m sender).ti = s.ti ∧
    (s.senderPositionDrawn m sender).cb = s.cb ∧ (s.senderPositionDrawn m sender).sq = s.sq ∧
    (s.senderPositionDrawn m sender).rm = s.rm ∧ (s.senderPositionDrawn m sender).rt = s.rt ∧
    (s.senderPositionDrawn m sender).du = s.du ∧ (s.senderPositionDrawn m sender).cp = s.cp ∧
    (s.senderPositionDrawn m sender).halt = s.halt ∧ (s.senderPositionDrawn m sender).rc = s.rc ∧
    (s.senderPositionDrawn m sender).ld = s.ld ∧ (s.senderPositionDrawn m sender).cfg = s.cfg ∧
    (s.senderPositionDrawn m sender).pending = s.pending := by
  unfold State.senderPositionDrawn
  (try dsimp only)
  (repeat' split) <;> simp

@[simp] theorem State.adoptTiming_unchanged (c : StationConfig) (now : Instant) (closing suppressed : Bool) (sender : StationId) (m : Image) :
    (s.adoptTiming c now closing suppressed sender m).sc = s.sc ∧
    (s.adoptTiming c now closing suppressed sender m).iu = s.iu ∧
    (s.adoptTiming c now closing suppressed sender m).ti = s.ti ∧
    (s.adoptTiming c now closing suppressed sender m).cb = s.cb ∧
    (s.adoptTiming c now closing suppressed sender m).sq = s.sq ∧
    (s.adoptTiming c now closing suppressed sender m).rm = s.rm ∧
    (s.adoptTiming c now closing suppressed sender m).rt = s.rt ∧
    (s.adoptTiming c now closing suppressed sender m).du = s.du ∧
    (s.adoptTiming c now closing suppressed sender m).cp = s.cp ∧
    (s.adoptTiming c now closing suppressed sender m).halt = s.halt ∧
    (s.adoptTiming c now closing suppressed sender m).rc = s.rc ∧
    (s.adoptTiming c now closing suppressed sender m).ld = s.ld ∧
    (s.adoptTiming c now closing suppressed sender m).cfg = s.cfg ∧
    (s.adoptTiming c now closing suppressed sender m).pending = s.pending := by
  unfold State.adoptTiming
  (try dsimp only)
  (repeat' split) <;> simp

@[simp] theorem State.takeUpTiming_unchanged (c : StationConfig) (closing suppressed : Bool) (sender : StationId) (m : Image) :
    (s.takeUpTiming c closing suppressed sender m).sc = s.sc ∧
    (s.takeUpTiming c closing suppressed sender m).iu = s.iu ∧
    (s.takeUpTiming c closing suppressed sender m).ti = s.ti ∧
    (s.takeUpTiming c closing suppressed sender m).cb = s.cb ∧
    (s.takeUpTiming c closing suppressed sender m).sq = s.sq ∧
    (s.takeUpTiming c closing suppressed sender m).rm = s.rm ∧
    (s.takeUpTiming c closing suppressed sender m).rt = s.rt ∧
    (s.takeUpTiming c closing suppressed sender m).du = s.du ∧
    (s.takeUpTiming c closing suppressed sender m).cp = s.cp ∧
    (s.takeUpTiming c closing suppressed sender m).halt = s.halt ∧
    (s.takeUpTiming c closing suppressed sender m).rc = s.rc ∧
    (s.takeUpTiming c closing suppressed sender m).ld = s.ld ∧
    (s.takeUpTiming c closing suppressed sender m).cfg = s.cfg ∧
    (s.takeUpTiming c closing suppressed sender m).pending = s.pending := by
  unfold State.takeUpTiming
  (try dsimp only)
  (repeat' split) <;> simp

@[simp] theorem State.timerCycleEnd_unchanged (c : StationConfig) (now : Instant) :
    (s.timerCycleEnd c now).sc = s.sc ∧ (s.timerCycleEnd c now).iu = s.iu ∧ (s.timerCycleEnd c now).sq = s.sq ∧
    (s.timerCycleEnd c now).rm = s.rm ∧ (s.timerCycleEnd c now).du = s.du ∧ (s.timerCycleEnd c now).cp = s.cp ∧
    (s.timerCycleEnd c now).halt = s.halt ∧ (s.timerCycleEnd c now).rc = s.rc ∧ (s.timerCycleEnd c now).ld = s.ld ∧
    (s.timerCycleEnd c now).cfg = s.cfg ∧ (s.timerCycleEnd c now).free = s.free ∧
    (s.timerCycleEnd c now).pending = s.pending := by
  unfold State.timerCycleEnd
  (try dsimp only)
  (repeat' split) <;> simp

@[simp] theorem State.failAttempt_unchanged (c : StationConfig) (now : Instant) :
    (s.failAttempt c now).rm = s.rm ∧ (s.failAttempt c now).du = s.du ∧ (s.failAttempt c now).rc = s.rc ∧
    (s.failAttempt c now).ld = s.ld ∧ (s.failAttempt c now).cfg = s.cfg ∧ (s.failAttempt c now).free = s.free ∧
    (s.failAttempt c now).pending = s.pending := by
  unfold State.failAttempt
  (try dsimp only)
  (repeat' split) <;> simp

@[simp] theorem State.dropTracked_unchanged :
    (s.dropTracked).sc = s.sc ∧ (s.dropTracked).ti = s.ti ∧ (s.dropTracked).cb = s.cb ∧ (s.dropTracked).sq = s.sq ∧
    (s.dropTracked).rm = s.rm ∧ (s.dropTracked).rt = s.rt ∧ (s.dropTracked).du = s.du ∧ (s.dropTracked).cp = s.cp ∧
    (s.dropTracked).halt = s.halt ∧ (s.dropTracked).rc = s.rc ∧ (s.dropTracked).ld = s.ld ∧
    (s.dropTracked).cfg = s.cfg ∧ (s.dropTracked).free = s.free ∧ (s.dropTracked).pending = s.pending := by
  unfold State.dropTracked
  (try dsimp only)
  (repeat' split) <;> simp

@[simp] theorem State.trackedCycleEnd_unchanged (c : StationConfig) (now : Instant) (emptied : Bool) (m' : Image) :
    (s.trackedCycleEnd c now emptied m').rm = s.rm ∧ (s.trackedCycleEnd c now emptied m').du = s.du ∧
    (s.trackedCycleEnd c now emptied m').rc = s.rc ∧ (s.trackedCycleEnd c now emptied m').ld = s.ld ∧
    (s.trackedCycleEnd c now emptied m').cfg = s.cfg ∧ (s.trackedCycleEnd c now emptied m').free = s.free ∧
    (s.trackedCycleEnd c now emptied m').pending = s.pending := by
  unfold State.trackedCycleEnd
  (try dsimp only)
  (repeat' split) <;> simp

@[simp] theorem State.leftByLeave_unchanged :
    (s.leftByLeave).rm = s.rm ∧ (s.leftByLeave).du = s.du ∧ (s.leftByLeave).rc = s.rc ∧ (s.leftByLeave).ld = s.ld ∧
    (s.leftByLeave).cfg = s.cfg ∧ (s.leftByLeave).free = s.free ∧ (s.leftByLeave).pending = s.pending := by
  unfold State.leftByLeave
  (try dsimp only)
  (repeat' split) <;> simp

@[simp] theorem State.evicted_unchanged (c : StationConfig) (now : Instant) :
    (s.evicted c now).rm = s.rm ∧ (s.evicted c now).du = s.du ∧ (s.evicted c now).rc = s.rc ∧
    (s.evicted c now).ld = s.ld ∧ (s.evicted c now).cfg = s.cfg ∧ (s.evicted c now).free = s.free ∧
    (s.evicted c now).pending = s.pending := by
  unfold State.evicted
  (try dsimp only)
  (repeat' split) <;> simp

@[simp] theorem State.reportHalt_unchanged (change : HaltChange) :
    (s.reportHalt change).sc = s.sc ∧ (s.reportHalt change).iu = s.iu ∧ (s.reportHalt change).ct = s.ct ∧
    (s.reportHalt change).ti = s.ti ∧ (s.reportHalt change).cb = s.cb ∧ (s.reportHalt change).sq = s.sq ∧
    (s.reportHalt change).rm = s.rm ∧ (s.reportHalt change).rt = s.rt ∧ (s.reportHalt change).du = s.du ∧
    (s.reportHalt change).rc = s.rc ∧ (s.reportHalt change).ld = s.ld ∧ (s.reportHalt change).cfg = s.cfg ∧
    (s.reportHalt change).free = s.free ∧ (s.reportHalt change).pending = s.pending := by
  unfold State.reportHalt
  (try dsimp only)
  (repeat' split) <;> simp

@[simp] theorem State.reportEpoch_unchanged (before after : Word16) :
    (s.reportEpoch before after).sc = s.sc ∧ (s.reportEpoch before after).iu = s.iu ∧
    (s.reportEpoch before after).ct = s.ct ∧ (s.reportEpoch before after).ti = s.ti ∧
    (s.reportEpoch before after).cb = s.cb ∧ (s.reportEpoch before after).sq = s.sq ∧
    (s.reportEpoch before after).rm = s.rm ∧ (s.reportEpoch before after).rt = s.rt ∧
    (s.reportEpoch before after).du = s.du ∧ (s.reportEpoch before after).halt = s.halt ∧
    (s.reportEpoch before after).rc = s.rc ∧ (s.reportEpoch before after).ld = s.ld ∧
    (s.reportEpoch before after).cfg = s.cfg ∧ (s.reportEpoch before after).free = s.free ∧
    (s.reportEpoch before after).pending = s.pending := by
  unfold State.reportEpoch
  (try dsimp only)
  (repeat' split) <;> simp

@[simp] theorem State.staysMember_unchanged (c : StationConfig) (now : Instant) (m after : Image) (change : HaltChange) :
    (s.staysMember c now m after change).sc = s.sc ∧ (s.staysMember c now m after change).sq = s.sq ∧
    (s.staysMember c now m after change).rm = s.rm ∧ (s.staysMember c now m after change).du = s.du ∧
    (s.staysMember c now m after change).rc = s.rc ∧ (s.staysMember c now m after change).ld = s.ld ∧
    (s.staysMember c now m after change).cfg = s.cfg ∧ (s.staysMember c now m after change).free = s.free ∧
    (s.staysMember c now m after change).pending = s.pending := by
  unfold State.staysMember
  (try dsimp only)
  (repeat' split) <;> simp

@[simp] theorem State.countRefusedJoin_unchanged (refused : Bool) :
    (s.countRefusedJoin refused).iu = s.iu ∧ (s.countRefusedJoin refused).ct = s.ct ∧
    (s.countRefusedJoin refused).ti = s.ti ∧ (s.countRefusedJoin refused).cb = s.cb ∧
    (s.countRefusedJoin refused).sq = s.sq ∧ (s.countRefusedJoin refused).rm = s.rm ∧
    (s.countRefusedJoin refused).rt = s.rt ∧ (s.countRefusedJoin refused).du = s.du ∧
    (s.countRefusedJoin refused).cp = s.cp ∧ (s.countRefusedJoin refused).halt = s.halt ∧
    (s.countRefusedJoin refused).rc = s.rc ∧ (s.countRefusedJoin refused).ld = s.ld ∧
    (s.countRefusedJoin refused).cfg = s.cfg ∧ (s.countRefusedJoin refused).free = s.free ∧
    (s.countRefusedJoin refused).pending = s.pending := by
  unfold State.countRefusedJoin
  (try dsimp only)
  (repeat' split) <;> simp

@[simp] theorem State.memberCycleEnd_unchanged (c : StationConfig) (now : Instant) (m m' : Image) :
    (s.memberCycleEnd c now m m').rm = s.rm ∧ (s.memberCycleEnd c now m m').du = s.du ∧
    (s.memberCycleEnd c now m m').rc = s.rc ∧ (s.memberCycleEnd c now m m').ld = s.ld ∧
    (s.memberCycleEnd c now m m').cfg = s.cfg ∧ (s.memberCycleEnd c now m m').free = s.free ∧
    (s.memberCycleEnd c now m m').pending = s.pending := by
  unfold State.memberCycleEnd
  (try dsimp only)
  (repeat' split) <;> simp

@[simp] theorem State.cycleEnd_unchanged (c : StationConfig) (now : Instant) :
    (s.cycleEnd c now).rm = s.rm ∧ (s.cycleEnd c now).rc = s.rc ∧ (s.cycleEnd c now).ld = s.ld ∧
    (s.cycleEnd c now).cfg = s.cfg ∧ (s.cycleEnd c now).pending = s.pending := by
  unfold State.cycleEnd
  (try dsimp only)
  (repeat' split) <;> simp

end Sys2Proof.Machine
end

