-- ==== Sys2Proof/Laws/Assembly.lean ====
section
/-! SUPPORT. What the parts of a frame assembly decide (R48): items, hold-back, acknowledgment, drain. -/

namespace Sys2Proof.Machine

/-- R136: who still owes an acknowledgment. -/
theorem Image.awaitsAck_iff (m : Image) (i : StationId) :
    m.awaitsAck i = true ↔ ∃ g, m.gather = some g ∧ IdSet.has g.required i = true ∧ IdSet.has g.acked i = false := by
  unfold Image.awaitsAck
  cases m.gather <;> simp

/-- R114: the image holds a request of the station, queued or active. -/
theorem Image.holdsBack_iff (m : Image) (i : StationId) :
    m.holdsBack i = true ↔ (∃ r ∈ m.queue, r.requester = i) ∨ ∃ a, m.capture = some a ∧ a.request.requester = i := by
  unfold Image.holdsBack Image.ownRequest
  cases m.capture with
  | none => simp
  | some a => by_cases h : a.request.requester = i <;> simp [h]

/-- R79, log 32: no phase holds a LEAVE or a HALT_ACK back. -/
theorem CycleTimer.phaseToCome_false_iff (t : CycleTimer) :
    t.phaseToCome = false ↔
      ∀ p q, t.plan = some p → p.called = some q → t.mark = none ∨ t.phaseTaken = true ∨ q < t.nextPhase := by
  unfold CycleTimer.phaseToCome
  cases t.plan with
  | none => simp
  | some p =>
    cases hq : p.called with
    | none =>
      refine ⟨fun _ a b ha hb => ?_, fun _ => by simp [hq]⟩
      cases ha
      rw [hq] at hb
      cases hb
    | some q =>
      simp only [Option.bind_some, hq, Bool.and_eq_false_iff, Option.isSome_eq_false_iff, Option.isNone_iff_eq_none,
        Bool.not_eq_false', decide_eq_false_iff_not, not_le, or_assoc]
      exact ⟨fun h a b ha hb => by cases ha; rw [hq] at hb; cases hb; exact h, fun h => h p q rfl hq⟩

/-- R152, R79: drained is an empty queue, nothing in flight in the converter and no phase to come. -/
theorem State.drained_iff (s : State) :
    s.drained = true ↔ s.rt.queue = [] ∧ s.sq.inFlight = [] ∧ s.ct.phaseToCome = false := by
  simp [State.drained, State.converting, and_assoc]

/-- R48 step 5: the items are in the fixed order, and each kind is there when it is pending and not held back. -/
theorem ItemBuffer.itemsToSend_spec (b : ItemBuffer) (held : Bool) :
    codesAscending ((b.itemsToSend held).map Item.code) = true ∧ (Item.haltAck ∈ b.itemsToSend held ↔ b.haltAck = true) ∧
      (Item.resumeReq ∈ b.itemsToSend held ↔ b.resumeReq = true) ∧ (Item.haltReq ∈ b.itemsToSend held ↔ b.haltReq = true) ∧
      (Item.leave ∈ b.itemsToSend held ↔ b.leave = true) ∧
      ∀ q n k, Item.priorityReq q n k ∈ b.itemsToSend held ↔ b.request = some (q, n) ∧ k = b.serial ∧ held = false := by
  obtain ⟨request, haltReq, resumeReq, haltAck, leave, reposted, serial⟩ := b
  rcases request with _ | ⟨cause, total⟩ <;> cases haltAck <;> cases resumeReq <;> cases haltReq <;> cases leave <;> cases held <;>
    simp [ItemBuffer.itemsToSend, codesAscending, Item.code, eq_comm, and_assoc]

/-- R79, R148: drained after the take of an assembly is at most 12 records in all, nothing in flight and no phase to come. -/
theorem State.drained_packed_iff (s : State) :
    (s.setRt s.rt.returned.pack).drained = true ↔
      (s.rt.inFlight ++ s.rt.queue).length ≤ 12 ∧ s.sq.inFlight = [] ∧ s.ct.phaseToCome = false := by
  simp [State.drained_iff, RecordTransport.returned, RecordTransport.pack]

/-- R48: everything that an assembly does. -/
theorem State.assembleBeat_spec {s : State} {m : Image} (hm : s.iu.image = some m) (ht : s.ti.tx = .idle ∨ s.ti.tx = .armed)
    (c : StationConfig) (now : Instant) :
    let packed := s.setRt s.rt.returned.pack
    let t := s.assembleBeat c now
    t.rt = s.rt.returned.pack ∧
      t.cb = { s.cb with haltAck := packed.haltAckAfter c m, leave := packed.leaveAfter, reposted := false } ∧
      ∃ items, items = (if s.iu.certainty = some .synced then t.cb.itemsToSend (m.holdsBack c.id) else []) ∧
        t.ti = { s.ti with
          tx := .armed
          startGuard := some (now + guardOf c)
          frame := some (.beat (s.iu.certainty != some .synced) m.epoch m.cycle (Fin.ofNat 16 (s.ct.position.getD 0)) items items
            s.summaryToSend) } := by
  intro packed t
  have ht' : t = s.assembleBeat c now := rfl
  simp only [State.assembleBeat, hm, if_pos ht] at ht'
  rw [ht']
  refine ⟨rfl, rfl, _, rfl, ?_⟩
  by_cases hs : s.iu.certainty = some .synced <;> simp [State.beatFrame, State.judged, State.summaryToSend, hs]

/-- What an assembly takes from the state before it is the record transport and the pending set alone. -/
theorem State.assembles_congr {s s' : State} (hrt : s.rt = s'.rt) (hcb : s.cb = s'.cb) (c : StationConfig) (now : Instant) (t : State) :
    s.assembles c now t ↔ s'.assembles c now t := by
  simp only [State.assembles, hrt, hcb]

/-- R48: an assembly in the own slot of a MEMBER makes the BEAT that the statements describe. -/
theorem State.assembleBeat_assembles {s : State} {m : Image} (hs : s.sc.state = .member) (hm : s.iu.image = some m)
    (hc : s.ct.state = .slots) (hp : s.ct.position = some s.ct.pointer) (ht : s.ti.tx = .idle ∨ s.ti.tx = .armed)
    (c : StationConfig) (now : Instant) : s.assembles c now (s.assembleBeat c now) := by
  obtain ⟨hrt, hcb, items, hitems, hti⟩ := State.assembleBeat_spec hm ht c now
  have hsc : (s.assembleBeat c now).sc = s.sc := by simp
  have hiu : (s.assembleBeat c now).iu = s.iu := by simp
  have hct : (s.assembleBeat c now).ct = s.ct := by simp
  have hsq : (s.assembleBeat c now).sq = s.sq := by simp
  have drained := s.drained_packed_iff
  obtain ⟨order, ack, resume, halt, leave, request⟩ := (s.assembleBeat c now).cb.itemsToSend_spec (m.holdsBack c.id)
  refine ⟨m, items, by rw [hiu, hm], ?_⟩
  rw [hsc, hiu, hct, hsq, hti]
  rw [CycleTimer.phaseToCome_false_iff] at drained
  refine ⟨hs, hc, hp, hrt, ?_, ?_, ?_, rfl, rfl, ?_, ?_, ?_, ?_⟩
  · rw [hcb]
  · rw [hcb]
    simp only [State.haltAckAfter, Bool.and_eq_true, Bool.or_eq_true, decide_eq_true_eq, Image.awaitsAck_iff, drained,
      Option.map_eq_some_iff]
    rfl
  · rw [hcb]
    simp only [State.leaveAfter, Bool.and_eq_true, Bool.or_eq_true, drained]
    rfl
  · simp [hp, State.summaryToSend]
  · rw [hitems]; split
    · exact order
    · rfl
  · intro h; rw [hitems, if_neg h]
  · intro h
    rw [hitems, if_pos h]
    refine ⟨ack, ?_, ?_, leave, ?_⟩
    · rw [resume, hcb]
    · rw [halt, hcb]
    · intro q n k
      rw [request, hcb, ← Image.holdsBack_iff, Bool.not_eq_true]

end Sys2Proof.Machine
end

