-- ==== Sys2Proof/Laws/FramesUnchanged.lean ====
section
/-! SUPPORT. What trunk frames leave unchanged: for each operation, the fields of State that it never writes. -/

namespace Sys2Proof.Machine

variable (s : State)

@[simp] theorem State.goDoubtful_unchanged :
    (s.goDoubtful).sc = s.sc ∧ (s.goDoubtful).ct = s.ct ∧ (s.goDoubtful).ti = s.ti ∧ (s.goDoubtful).cb = s.cb ∧
    (s.goDoubtful).sq = s.sq ∧ (s.goDoubtful).rm = s.rm ∧ (s.goDoubtful).rt = s.rt ∧ (s.goDoubtful).du = s.du ∧
    (s.goDoubtful).cp = s.cp ∧ (s.goDoubtful).halt = s.halt ∧ (s.goDoubtful).rc = s.rc ∧ (s.goDoubtful).ld = s.ld ∧
    (s.goDoubtful).cfg = s.cfg ∧ (s.goDoubtful).free = s.free ∧ (s.goDoubtful).pending = s.pending := by
  unfold State.goDoubtful
  (try dsimp only)
  (repeat' split) <;> simp

@[simp] theorem State.giveUpFrame_unchanged :
    (s.giveUpFrame).sc = s.sc ∧ (s.giveUpFrame).iu = s.iu ∧ (s.giveUpFrame).ct = s.ct ∧ (s.giveUpFrame).cb = s.cb ∧
    (s.giveUpFrame).sq = s.sq ∧ (s.giveUpFrame).rm = s.rm ∧ (s.giveUpFrame).du = s.du ∧ (s.giveUpFrame).cp = s.cp ∧
    (s.giveUpFrame).halt = s.halt ∧ (s.giveUpFrame).rc = s.rc ∧ (s.giveUpFrame).ld = s.ld ∧
    (s.giveUpFrame).cfg = s.cfg ∧ (s.giveUpFrame).free = s.free ∧ (s.giveUpFrame).pending = s.pending := by
  unfold State.giveUpFrame
  (try dsimp only)
  (repeat' split) <;> simp

@[simp] theorem State.abandonArmedJoin_unchanged :
    (s.abandonArmedJoin).sc = s.sc ∧ (s.abandonArmedJoin).iu = s.iu ∧ (s.abandonArmedJoin).ct = s.ct ∧
    (s.abandonArmedJoin).cb = s.cb ∧ (s.abandonArmedJoin).sq = s.sq ∧ (s.abandonArmedJoin).rm = s.rm ∧
    (s.abandonArmedJoin).rt = s.rt ∧ (s.abandonArmedJoin).du = s.du ∧ (s.abandonArmedJoin).cp = s.cp ∧
    (s.abandonArmedJoin).halt = s.halt ∧ (s.abandonArmedJoin).rc = s.rc ∧ (s.abandonArmedJoin).ld = s.ld ∧
    (s.abandonArmedJoin).cfg = s.cfg ∧ (s.abandonArmedJoin).free = s.free ∧ (s.abandonArmedJoin).pending = s.pending := by
  unfold State.abandonArmedJoin
  (try dsimp only)
  (repeat' split) <;> simp

@[simp] theorem State.refreshArmed_unchanged :
    (s.refreshArmed).sc = s.sc ∧ (s.refreshArmed).iu = s.iu ∧ (s.refreshArmed).ct = s.ct ∧
    (s.refreshArmed).cb = s.cb ∧ (s.refreshArmed).sq = s.sq ∧ (s.refreshArmed).rm = s.rm ∧
    (s.refreshArmed).du = s.du ∧ (s.refreshArmed).cp = s.cp ∧ (s.refreshArmed).halt = s.halt ∧
    (s.refreshArmed).rc = s.rc ∧ (s.refreshArmed).ld = s.ld ∧ (s.refreshArmed).cfg = s.cfg ∧
    (s.refreshArmed).free = s.free ∧ (s.refreshArmed).pending = s.pending := by
  unfold State.refreshArmed
  (try dsimp only)
  (repeat' split) <;> simp

@[simp] theorem State.takeLeave_unchanged :
    (s.takeLeave).cb = s.cb ∧ (s.takeLeave).sq = s.sq ∧ (s.takeLeave).rm = s.rm ∧ (s.takeLeave).rt = s.rt ∧
    (s.takeLeave).du = s.du ∧ (s.takeLeave).cp = s.cp ∧ (s.takeLeave).halt = s.halt ∧ (s.takeLeave).rc = s.rc ∧
    (s.takeLeave).ld = s.ld ∧ (s.takeLeave).cfg = s.cfg ∧ (s.takeLeave).free = s.free ∧
    (s.takeLeave).pending = s.pending := by
  unfold State.takeLeave
  (try dsimp only)
  (repeat' split) <;> simp

@[simp] theorem State.takeDeferredLeave_unchanged :
    (s.takeDeferredLeave).cb = s.cb ∧ (s.takeDeferredLeave).sq = s.sq ∧ (s.takeDeferredLeave).rm = s.rm ∧
    (s.takeDeferredLeave).rt = s.rt ∧ (s.takeDeferredLeave).du = s.du ∧ (s.takeDeferredLeave).cp = s.cp ∧
    (s.takeDeferredLeave).halt = s.halt ∧ (s.takeDeferredLeave).rc = s.rc ∧ (s.takeDeferredLeave).ld = s.ld ∧
    (s.takeDeferredLeave).cfg = s.cfg ∧ (s.takeDeferredLeave).free = s.free ∧
    (s.takeDeferredLeave).pending = s.pending := by
  unfold State.takeDeferredLeave
  (try dsimp only)
  (repeat' split) <;> simp

@[simp] theorem State.reportItem_unchanged (own sender : StationId) (effect : ItemEffect) :
    (s.reportItem own sender effect).sc = s.sc ∧ (s.reportItem own sender effect).iu = s.iu ∧
    (s.reportItem own sender effect).ct = s.ct ∧ (s.reportItem own sender effect).ti = s.ti ∧
    (s.reportItem own sender effect).cb = s.cb ∧ (s.reportItem own sender effect).sq = s.sq ∧
    (s.reportItem own sender effect).rm = s.rm ∧ (s.reportItem own sender effect).rt = s.rt ∧
    (s.reportItem own sender effect).du = s.du ∧ (s.reportItem own sender effect).halt = s.halt ∧
    (s.reportItem own sender effect).rc = s.rc ∧ (s.reportItem own sender effect).ld = s.ld ∧
    (s.reportItem own sender effect).cfg = s.cfg ∧ (s.reportItem own sender effect).free = s.free ∧
    (s.reportItem own sender effect).pending = s.pending := by
  unfold State.reportItem
  (try dsimp only)
  (repeat' split) <;> simp

@[simp] theorem State.applyItem_unchanged (own sender : StationId) (item : Item) :
    (s.applyItem own sender item).sc = s.sc ∧ (s.applyItem own sender item).ct = s.ct ∧
    (s.applyItem own sender item).ti = s.ti ∧ (s.applyItem own sender item).cb = s.cb ∧
    (s.applyItem own sender item).sq = s.sq ∧ (s.applyItem own sender item).rm = s.rm ∧
    (s.applyItem own sender item).rt = s.rt ∧ (s.applyItem own sender item).du = s.du ∧
    (s.applyItem own sender item).halt = s.halt ∧ (s.applyItem own sender item).rc = s.rc ∧
    (s.applyItem own sender item).ld = s.ld ∧ (s.applyItem own sender item).cfg = s.cfg ∧
    (s.applyItem own sender item).free = s.free ∧ (s.applyItem own sender item).pending = s.pending := by
  unfold State.applyItem
  (try dsimp only)
  (repeat' split) <;> simp

@[simp] theorem State.applyItems_unchanged (own sender : StationId) (items : List Item) :
    (s.applyItems own sender items).sc = s.sc ∧ (s.applyItems own sender items).ct = s.ct ∧
    (s.applyItems own sender items).ti = s.ti ∧ (s.applyItems own sender items).cb = s.cb ∧
    (s.applyItems own sender items).sq = s.sq ∧ (s.applyItems own sender items).rm = s.rm ∧
    (s.applyItems own sender items).rt = s.rt ∧ (s.applyItems own sender items).du = s.du ∧
    (s.applyItems own sender items).halt = s.halt ∧ (s.applyItems own sender items).rc = s.rc ∧
    (s.applyItems own sender items).ld = s.ld ∧ (s.applyItems own sender items).cfg = s.cfg ∧
    (s.applyItems own sender items).free = s.free ∧ (s.applyItems own sender items).pending = s.pending := by
  unfold State.applyItems
  induction items generalizing s with
  | nil => simp
  | cons i l ih => simp [ih]

@[simp] theorem State.reportLostRequest_unchanged (own : StationId) (copy summary : Image) :
    (s.reportLostRequest own copy summary).sc = s.sc ∧ (s.reportLostRequest own copy summary).iu = s.iu ∧
    (s.reportLostRequest own copy summary).ct = s.ct ∧ (s.reportLostRequest own copy summary).ti = s.ti ∧
    (s.reportLostRequest own copy summary).cb = s.cb ∧ (s.reportLostRequest own copy summary).sq = s.sq ∧
    (s.reportLostRequest own copy summary).rm = s.rm ∧ (s.reportLostRequest own copy summary).rt = s.rt ∧
    (s.reportLostRequest own copy summary).du = s.du ∧ (s.reportLostRequest own copy summary).halt = s.halt ∧
    (s.reportLostRequest own copy summary).rc = s.rc ∧ (s.reportLostRequest own copy summary).ld = s.ld ∧
    (s.reportLostRequest own copy summary).cfg = s.cfg ∧ (s.reportLostRequest own copy summary).free = s.free ∧
    (s.reportLostRequest own copy summary).pending = s.pending := by
  unfold State.reportLostRequest
  (try dsimp only)
  (repeat' split) <;> simp

@[simp] theorem State.reportHaltAdopted_unchanged (copy summary : Image) :
    (s.reportHaltAdopted copy summary).sc = s.sc ∧ (s.reportHaltAdopted copy summary).iu = s.iu ∧
    (s.reportHaltAdopted copy summary).ct = s.ct ∧ (s.reportHaltAdopted copy summary).ti = s.ti ∧
    (s.reportHaltAdopted copy summary).cb = s.cb ∧ (s.reportHaltAdopted copy summary).sq = s.sq ∧
    (s.reportHaltAdopted copy summary).rm = s.rm ∧ (s.reportHaltAdopted copy summary).rt = s.rt ∧
    (s.reportHaltAdopted copy summary).du = s.du ∧ (s.reportHaltAdopted copy summary).rc = s.rc ∧
    (s.reportHaltAdopted copy summary).ld = s.ld ∧ (s.reportHaltAdopted copy summary).cfg = s.cfg ∧
    (s.reportHaltAdopted copy summary).free = s.free ∧ (s.reportHaltAdopted copy summary).pending = s.pending := by
  unfold State.reportHaltAdopted
  (try dsimp only)
  (repeat' split) <;> simp

@[simp] theorem State.reportDiverged_unchanged (own : StationId) (copy : Option Image) (summary : Image) :
    (s.reportDiverged own copy summary).sc = s.sc ∧ (s.reportDiverged own copy summary).iu = s.iu ∧
    (s.reportDiverged own copy summary).ct = s.ct ∧ (s.reportDiverged own copy summary).ti = s.ti ∧
    (s.reportDiverged own copy summary).cb = s.cb ∧ (s.reportDiverged own copy summary).sq = s.sq ∧
    (s.reportDiverged own copy summary).rm = s.rm ∧ (s.reportDiverged own copy summary).rt = s.rt ∧
    (s.reportDiverged own copy summary).du = s.du ∧ (s.reportDiverged own copy summary).halt = s.halt ∧
    (s.reportDiverged own copy summary).rc = s.rc ∧ (s.reportDiverged own copy summary).ld = s.ld ∧
    (s.reportDiverged own copy summary).cfg = s.cfg ∧ (s.reportDiverged own copy summary).free = s.free ∧
    (s.reportDiverged own copy summary).pending = s.pending := by
  unfold State.reportDiverged
  (try dsimp only)
  (repeat' split) <;> simp

@[simp] theorem State.reportAdopted_unchanged (copy : Option Image) (summary : Image) :
    (s.reportAdopted copy summary).sc = s.sc ∧ (s.reportAdopted copy summary).iu = s.iu ∧
    (s.reportAdopted copy summary).ct = s.ct ∧ (s.reportAdopted copy summary).ti = s.ti ∧
    (s.reportAdopted copy summary).cb = s.cb ∧ (s.reportAdopted copy summary).sq = s.sq ∧
    (s.reportAdopted copy summary).rm = s.rm ∧ (s.reportAdopted copy summary).rt = s.rt ∧
    (s.reportAdopted copy summary).du = s.du ∧ (s.reportAdopted copy summary).rc = s.rc ∧
    (s.reportAdopted copy summary).ld = s.ld ∧ (s.reportAdopted copy summary).cfg = s.cfg ∧
    (s.reportAdopted copy summary).free = s.free ∧ (s.reportAdopted copy summary).pending = s.pending := by
  unfold State.reportAdopted
  (try dsimp only)
  (repeat' split) <;> simp

@[simp] theorem State.adopt_unchanged (c : StationConfig) (now : Instant) (closing : Bool) (sender : StationId) (summary : Image) :
    (s.adopt c now closing sender summary).sc = s.sc ∧ (s.adopt c now closing sender summary).ti = s.ti ∧
    (s.adopt c now closing sender summary).cb = s.cb ∧ (s.adopt c now closing sender summary).sq = s.sq ∧
    (s.adopt c now closing sender summary).rm = s.rm ∧ (s.adopt c now closing sender summary).rt = s.rt ∧
    (s.adopt c now closing sender summary).du = s.du ∧ (s.adopt c now closing sender summary).rc = s.rc ∧
    (s.adopt c now closing sender summary).ld = s.ld ∧ (s.adopt c now closing sender summary).cfg = s.cfg ∧
    (s.adopt c now closing sender summary).pending = s.pending := by
  unfold State.adopt
  (try dsimp only)
  (repeat' split) <;> simp

@[simp] theorem State.listenTracking_unchanged (c : StationConfig) (now : Instant) (summary : Image) :
    (s.listenTracking c now summary).ct = s.ct ∧ (s.listenTracking c now summary).ti = s.ti ∧
    (s.listenTracking c now summary).cb = s.cb ∧ (s.listenTracking c now summary).sq = s.sq ∧
    (s.listenTracking c now summary).rm = s.rm ∧ (s.listenTracking c now summary).rt = s.rt ∧
    (s.listenTracking c now summary).du = s.du ∧ (s.listenTracking c now summary).cp = s.cp ∧
    (s.listenTracking c now summary).halt = s.halt ∧ (s.listenTracking c now summary).rc = s.rc ∧
    (s.listenTracking c now summary).ld = s.ld ∧ (s.listenTracking c now summary).cfg = s.cfg ∧
    (s.listenTracking c now summary).free = s.free ∧ (s.listenTracking c now summary).pending = s.pending := by
  unfold State.listenTracking
  (try dsimp only)
  (repeat' split) <;> simp

@[simp] theorem State.evictedByAdoption_unchanged (c : StationConfig) (now : Instant) (closing : Bool) (sender : StationId) (summary : Image) :
    (s.evictedByAdoption c now closing sender summary).rm = s.rm ∧
    (s.evictedByAdoption c now closing sender summary).du = s.du ∧
    (s.evictedByAdoption c now closing sender summary).rc = s.rc ∧
    (s.evictedByAdoption c now closing sender summary).ld = s.ld ∧
    (s.evictedByAdoption c now closing sender summary).cfg = s.cfg ∧
    (s.evictedByAdoption c now closing sender summary).pending = s.pending := by
  unfold State.evictedByAdoption
  (try dsimp only)
  (repeat' split) <;> simp

@[simp] theorem State.yieldTo_unchanged (c : StationConfig) (now : Instant) (closing : Bool) (sender : StationId) (summary : Image) :
    (s.yieldTo c now closing sender summary).rm = s.rm ∧ (s.yieldTo c now closing sender summary).du = s.du ∧
    (s.yieldTo c now closing sender summary).rc = s.rc ∧ (s.yieldTo c now closing sender summary).ld = s.ld ∧
    (s.yieldTo c now closing sender summary).cfg = s.cfg ∧
    (s.yieldTo c now closing sender summary).pending = s.pending := by
  unfold State.yieldTo
  (try dsimp only)
  (repeat' split) <;> simp

@[simp] theorem State.trackTiming_unchanged (c : StationConfig) (now : Instant) (closing suppressed known : Bool) (sender : StationId) (summary : Image) :
    (s.trackTiming c now closing suppressed known sender summary).sc = s.sc ∧
    (s.trackTiming c now closing suppressed known sender summary).iu = s.iu ∧
    (s.trackTiming c now closing suppressed known sender summary).ti = s.ti ∧
    (s.trackTiming c now closing suppressed known sender summary).cb = s.cb ∧
    (s.trackTiming c now closing suppressed known sender summary).sq = s.sq ∧
    (s.trackTiming c now closing suppressed known sender summary).rm = s.rm ∧
    (s.trackTiming c now closing suppressed known sender summary).rt = s.rt ∧
    (s.trackTiming c now closing suppressed known sender summary).du = s.du ∧
    (s.trackTiming c now closing suppressed known sender summary).cp = s.cp ∧
    (s.trackTiming c now closing suppressed known sender summary).halt = s.halt ∧
    (s.trackTiming c now closing suppressed known sender summary).rc = s.rc ∧
    (s.trackTiming c now closing suppressed known sender summary).ld = s.ld ∧
    (s.trackTiming c now closing suppressed known sender summary).cfg = s.cfg ∧
    (s.trackTiming c now closing suppressed known sender summary).pending = s.pending := by
  unfold State.trackTiming
  (try dsimp only)
  (repeat' split) <;> simp

@[simp] theorem State.trackSummary_unchanged (c : StationConfig) (now : Instant) (closing known : Bool) (sender : StationId) (summary : Image) :
    (s.trackSummary c now closing known sender summary).sc = s.sc ∧
    (s.trackSummary c now closing known sender summary).ti = s.ti ∧
    (s.trackSummary c now closing known sender summary).cb = s.cb ∧
    (s.trackSummary c now closing known sender summary).sq = s.sq ∧
    (s.trackSummary c now closing known sender summary).rm = s.rm ∧
    (s.trackSummary c now closing known sender summary).rt = s.rt ∧
    (s.trackSummary c now closing known sender summary).du = s.du ∧
    (s.trackSummary c now closing known sender summary).cp = s.cp ∧
    (s.trackSummary c now closing known sender summary).halt = s.halt ∧
    (s.trackSummary c now closing known sender summary).rc = s.rc ∧
    (s.trackSummary c now closing known sender summary).ld = s.ld ∧
    (s.trackSummary c now closing known sender summary).cfg = s.cfg ∧
    (s.trackSummary c now closing known sender summary).pending = s.pending := by
  unfold State.trackSummary
  (try dsimp only)
  (repeat' split) <;> simp

@[simp] theorem State.confirmJoin_unchanged (c : StationConfig) (now : Instant) (closing known : Bool) (sender : StationId) (summary : Image) :
    (s.confirmJoin c now closing known sender summary).ti = s.ti ∧
    (s.confirmJoin c now closing known sender summary).cb = s.cb ∧
    (s.confirmJoin c now closing known sender summary).sq = s.sq ∧
    (s.confirmJoin c now closing known sender summary).rt = s.rt ∧
    (s.confirmJoin c now closing known sender summary).du = s.du ∧
    (s.confirmJoin c now closing known sender summary).rc = s.rc ∧
    (s.confirmJoin c now closing known sender summary).ld = s.ld ∧
    (s.confirmJoin c now closing known sender summary).cfg = s.cfg ∧
    (s.confirmJoin c now closing known sender summary).pending = s.pending := by
  unfold State.confirmJoin
  (try dsimp only)
  (repeat' split) <;> simp

@[simp] theorem State.memberSummary_unchanged (c : StationConfig) (now : Instant) (closing : Bool) (sender : StationId) (summary m : Image) :
    ((s.memberSummary c now closing sender summary m).1).rm = s.rm ∧
    ((s.memberSummary c now closing sender summary m).1).du = s.du ∧
    ((s.memberSummary c now closing sender summary m).1).rc = s.rc ∧
    ((s.memberSummary c now closing sender summary m).1).ld = s.ld ∧
    ((s.memberSummary c now closing sender summary m).1).cfg = s.cfg ∧
    ((s.memberSummary c now closing sender summary m).1).pending = s.pending := by
  unfold State.memberSummary
  (try dsimp only)
  (repeat' split) <;> simp

@[simp] theorem State.takeSummary_unchanged (c : StationConfig) (now : Instant) (closing : Bool) (sender : StationId) (summary : Image) :
    ((s.takeSummary c now closing sender summary).1).du = s.du ∧
    ((s.takeSummary c now closing sender summary).1).rc = s.rc ∧
    ((s.takeSummary c now closing sender summary).1).ld = s.ld ∧
    ((s.takeSummary c now closing sender summary).1).cfg = s.cfg ∧
    ((s.takeSummary c now closing sender summary).1).pending = s.pending := by
  unfold State.takeSummary
  (try dsimp only)
  (repeat' split) <;> simp

@[simp] theorem State.countInconsistent_unchanged :
    (s.countInconsistent).sc = s.sc ∧ (s.countInconsistent).iu = s.iu ∧ (s.countInconsistent).ct = s.ct ∧
    (s.countInconsistent).cb = s.cb ∧ (s.countInconsistent).sq = s.sq ∧ (s.countInconsistent).rm = s.rm ∧
    (s.countInconsistent).rt = s.rt ∧ (s.countInconsistent).du = s.du ∧ (s.countInconsistent).cp = s.cp ∧
    (s.countInconsistent).halt = s.halt ∧ (s.countInconsistent).rc = s.rc ∧ (s.countInconsistent).ld = s.ld ∧
    (s.countInconsistent).cfg = s.cfg ∧ (s.countInconsistent).free = s.free ∧
    (s.countInconsistent).pending = s.pending := by
  unfold State.countInconsistent
  (try dsimp only)
  (repeat' split) <;> simp

@[simp] theorem State.receiveError_unchanged :
    (s.receiveError).sc = s.sc ∧ (s.receiveError).ct = s.ct ∧ (s.receiveError).cb = s.cb ∧
    (s.receiveError).sq = s.sq ∧ (s.receiveError).rm = s.rm ∧ (s.receiveError).rt = s.rt ∧
    (s.receiveError).du = s.du ∧ (s.receiveError).halt = s.halt ∧ (s.receiveError).rc = s.rc ∧
    (s.receiveError).ld = s.ld ∧ (s.receiveError).cfg = s.cfg ∧ (s.receiveError).free = s.free ∧
    (s.receiveError).pending = s.pending := by
  unfold State.receiveError
  (try dsimp only)
  (repeat' split) <;> simp

@[simp] theorem State.hear_unchanged (i : StationId) :
    (s.hear i).sc = s.sc ∧ (s.hear i).iu = s.iu ∧ (s.hear i).ti = s.ti ∧ (s.hear i).cb = s.cb ∧ (s.hear i).sq = s.sq ∧
    (s.hear i).rm = s.rm ∧ (s.hear i).rt = s.rt ∧ (s.hear i).du = s.du ∧ (s.hear i).cp = s.cp ∧
    (s.hear i).halt = s.halt ∧ (s.hear i).rc = s.rc ∧ (s.hear i).ld = s.ld ∧ (s.hear i).cfg = s.cfg ∧
    (s.hear i).free = s.free ∧ (s.hear i).pending = s.pending := by
  unfold State.hear
  (try dsimp only)
  (repeat' split) <;> simp

@[simp] theorem State.structureFailed_unchanged (b : Beat) :
    ((s.structureFailed b).state).sc = s.sc ∧ ((s.structureFailed b).state).iu = s.iu ∧
    ((s.structureFailed b).state).cb = s.cb ∧ ((s.structureFailed b).state).sq = s.sq ∧
    ((s.structureFailed b).state).rm = s.rm ∧ ((s.structureFailed b).state).rt = s.rt ∧
    ((s.structureFailed b).state).du = s.du ∧ ((s.structureFailed b).state).cp = s.cp ∧
    ((s.structureFailed b).state).halt = s.halt ∧ ((s.structureFailed b).state).rc = s.rc ∧
    ((s.structureFailed b).state).ld = s.ld ∧ ((s.structureFailed b).state).cfg = s.cfg ∧
    ((s.structureFailed b).state).free = s.free ∧ ((s.structureFailed b).state).pending = s.pending := by
  unfold State.structureFailed
  (try dsimp only)
  (repeat' split) <;> simp

@[simp] theorem State.listedBeat_unchanged (c : StationConfig) (m : Image) (p : Nat) (outcome : SummaryOutcome) (b : Beat) :
    (s.listedBeat c m p outcome b).sc = s.sc ∧ (s.listedBeat c m p outcome b).ct = s.ct ∧
    (s.listedBeat c m p outcome b).cb = s.cb ∧ (s.listedBeat c m p outcome b).sq = s.sq ∧
    (s.listedBeat c m p outcome b).rm = s.rm ∧ (s.listedBeat c m p outcome b).rt = s.rt ∧
    (s.listedBeat c m p outcome b).du = s.du ∧ (s.listedBeat c m p outcome b).halt = s.halt ∧
    (s.listedBeat c m p outcome b).rc = s.rc ∧ (s.listedBeat c m p outcome b).ld = s.ld ∧
    (s.listedBeat c m p outcome b).cfg = s.cfg ∧ (s.listedBeat c m p outcome b).free = s.free ∧
    (s.listedBeat c m p outcome b).pending = s.pending := by
  unfold State.listedBeat
  (try dsimp only)
  (repeat' split) <;> simp

@[simp] theorem State.soundBeat_unchanged (c : StationConfig) (now : Instant) (closing : Bool) (b : Beat) :
    ((s.soundBeat c now closing b).state).du = s.du ∧ ((s.soundBeat c now closing b).state).rc = s.rc ∧
    ((s.soundBeat c now closing b).state).ld = s.ld ∧ ((s.soundBeat c now closing b).state).cfg = s.cfg ∧
    ((s.soundBeat c now closing b).state).pending = s.pending := by
  unfold State.soundBeat
  cases b.summary <;> dsimp only <;> split <;> (try split) <;> simp

@[simp] theorem State.joinHeard_unchanged (sender : StationId) (digest : Digest) (inWindow : Bool) :
    ((s.joinHeard sender digest inWindow).state).sc = s.sc ∧ ((s.joinHeard sender digest inWindow).state).ct = s.ct ∧
    ((s.joinHeard sender digest inWindow).state).cb = s.cb ∧ ((s.joinHeard sender digest inWindow).state).sq = s.sq ∧
    ((s.joinHeard sender digest inWindow).state).rm = s.rm ∧ ((s.joinHeard sender digest inWindow).state).rt = s.rt ∧
    ((s.joinHeard sender digest inWindow).state).du = s.du ∧ ((s.joinHeard sender digest inWindow).state).cp = s.cp ∧
    ((s.joinHeard sender digest inWindow).state).halt = s.halt ∧
    ((s.joinHeard sender digest inWindow).state).rc = s.rc ∧ ((s.joinHeard sender digest inWindow).state).ld = s.ld ∧
    ((s.joinHeard sender digest inWindow).state).cfg = s.cfg ∧
    ((s.joinHeard sender digest inWindow).state).free = s.free ∧
    ((s.joinHeard sender digest inWindow).state).pending = s.pending := by
  unfold State.joinHeard
  (try dsimp only)
  (repeat' split) <;> simp

@[simp] theorem State.ownBeatEnd_unchanged (c : StationConfig) (b : Beat) :
    ((s.ownBeatEnd c b).state).sc = s.sc ∧ ((s.ownBeatEnd c b).state).sq = s.sq ∧
    ((s.ownBeatEnd c b).state).rm = s.rm ∧ ((s.ownBeatEnd c b).state).du = s.du ∧
    ((s.ownBeatEnd c b).state).halt = s.halt ∧ ((s.ownBeatEnd c b).state).rc = s.rc ∧
    ((s.ownBeatEnd c b).state).ld = s.ld ∧ ((s.ownBeatEnd c b).state).cfg = s.cfg ∧
    ((s.ownBeatEnd c b).state).free = s.free ∧ ((s.ownBeatEnd c b).state).pending = s.pending := by
  unfold State.ownBeatEnd
  (try dsimp only)
  (repeat' split) <;> simp

@[simp] theorem State.ownJoinEnd_unchanged (c : StationConfig) (digest : Digest) :
    ((s.ownJoinEnd c digest).state).ct = s.ct ∧ ((s.ownJoinEnd c digest).state).cb = s.cb ∧
    ((s.ownJoinEnd c digest).state).sq = s.sq ∧ ((s.ownJoinEnd c digest).state).rm = s.rm ∧
    ((s.ownJoinEnd c digest).state).rt = s.rt ∧ ((s.ownJoinEnd c digest).state).du = s.du ∧
    ((s.ownJoinEnd c digest).state).cp = s.cp ∧ ((s.ownJoinEnd c digest).state).halt = s.halt ∧
    ((s.ownJoinEnd c digest).state).rc = s.rc ∧ ((s.ownJoinEnd c digest).state).ld = s.ld ∧
    ((s.ownJoinEnd c digest).state).cfg = s.cfg ∧ ((s.ownJoinEnd c digest).state).free = s.free ∧
    ((s.ownJoinEnd c digest).state).pending = s.pending := by
  unfold State.ownJoinEnd
  (try dsimp only)
  (repeat' split) <;> simp

@[simp] theorem State.ownFrameEnd_unchanged (c : StationConfig) :
    ((s.ownFrameEnd c).state).sq = s.sq ∧ ((s.ownFrameEnd c).state).rm = s.rm ∧ ((s.ownFrameEnd c).state).du = s.du ∧
    ((s.ownFrameEnd c).state).halt = s.halt ∧ ((s.ownFrameEnd c).state).rc = s.rc ∧
    ((s.ownFrameEnd c).state).ld = s.ld ∧ ((s.ownFrameEnd c).state).cfg = s.cfg ∧
    ((s.ownFrameEnd c).state).free = s.free ∧ ((s.ownFrameEnd c).state).pending = s.pending := by
  unfold State.ownFrameEnd
  (try dsimp only)
  (repeat' split) <;> simp

@[simp] theorem State.clashed_unchanged (c : StationConfig) :
    ((s.clashed c).state).rm = s.rm ∧ ((s.clashed c).state).du = s.du ∧ ((s.clashed c).state).rc = s.rc ∧
    ((s.clashed c).state).ld = s.ld ∧ ((s.clashed c).state).cfg = s.cfg ∧ ((s.clashed c).state).free = s.free ∧
    ((s.clashed c).state).pending = s.pending := by
  unfold State.clashed
  (try dsimp only)
  (repeat' split) <;> simp

@[simp] theorem State.classify_unchanged (c : StationConfig) (now : Instant) (closing inWindow : Bool) (line : List Bool) :
    ((s.classify c now closing inWindow line).state).du = s.du ∧
    ((s.classify c now closing inWindow line).state).rc = s.rc ∧
    ((s.classify c now closing inWindow line).state).ld = s.ld ∧
    ((s.classify c now closing inWindow line).state).cfg = s.cfg ∧
    ((s.classify c now closing inWindow line).state).pending = s.pending := by
  unfold State.classify
  (try dsimp only)
  (repeat' split) <;> simp

@[simp] theorem State.settle_unchanged (c : StationConfig) (now : Instant) (closing : Bool) (timing : Timing) :
    (s.settle c now closing timing).rm = s.rm ∧ (s.settle c now closing timing).du = s.du ∧
    (s.settle c now closing timing).rc = s.rc ∧ (s.settle c now closing timing).ld = s.ld ∧
    (s.settle c now closing timing).cfg = s.cfg ∧ (s.settle c now closing timing).free = s.free ∧
    (s.settle c now closing timing).pending = s.pending := by
  unfold State.settle
  (try dsimp only)
  (repeat' split) <;> simp

@[simp] theorem State.closeWindow_unchanged (c : StationConfig) (now : Instant) (origin : StationId) (records : List Record) :
    (s.closeWindow c now origin records).rm = s.rm ∧ (s.closeWindow c now origin records).rc = s.rc ∧
    (s.closeWindow c now origin records).ld = s.ld ∧ (s.closeWindow c now origin records).cfg = s.cfg ∧
    (s.closeWindow c now origin records).pending = s.pending := by
  unfold State.closeWindow
  (try dsimp only)
  (repeat' split) <;> simp

@[simp] theorem State.finish_unchanged (c : StationConfig) (now : Instant) (closing : Bool) (origin : StationId) (records : List Record) :
    (s.finish c now closing origin records).rm = s.rm ∧ (s.finish c now closing origin records).rc = s.rc ∧
    (s.finish c now closing origin records).ld = s.ld ∧ (s.finish c now closing origin records).cfg = s.cfg ∧
    (s.finish c now closing origin records).pending = s.pending := by
  unfold State.finish
  (try dsimp only)
  (repeat' split) <;> simp

@[simp] theorem State.frameEnd_unchanged (c : StationConfig) (now : Instant) (line : List Bool) (inWindow : Bool) :
    (s.frameEnd c now line inWindow).rc = s.rc ∧ (s.frameEnd c now line inWindow).ld = s.ld ∧
    (s.frameEnd c now line inWindow).cfg = s.cfg ∧ (s.frameEnd c now line inWindow).pending = s.pending := by
  unfold State.frameEnd
  (try dsimp only)
  (repeat' split) <;> simp

@[simp] theorem State.restartFounding_unchanged (c : StationConfig) (now : Instant) :
    (s.restartFounding c now).iu = s.iu ∧ (s.restartFounding c now).ct = s.ct ∧ (s.restartFounding c now).ti = s.ti ∧
    (s.restartFounding c now).cb = s.cb ∧ (s.restartFounding c now).sq = s.sq ∧ (s.restartFounding c now).rm = s.rm ∧
    (s.restartFounding c now).rt = s.rt ∧ (s.restartFounding c now).du = s.du ∧ (s.restartFounding c now).cp = s.cp ∧
    (s.restartFounding c now).halt = s.halt ∧ (s.restartFounding c now).rc = s.rc ∧
    (s.restartFounding c now).ld = s.ld ∧ (s.restartFounding c now).cfg = s.cfg ∧
    (s.restartFounding c now).free = s.free ∧ (s.restartFounding c now).pending = s.pending := by
  unfold State.restartFounding
  (try dsimp only)
  (repeat' split) <;> simp

@[simp] theorem State.hearSelf_unchanged (c : StationConfig) :
    (s.hearSelf c).sc = s.sc ∧ (s.hearSelf c).iu = s.iu ∧ (s.hearSelf c).ti = s.ti ∧ (s.hearSelf c).cb = s.cb ∧
    (s.hearSelf c).sq = s.sq ∧ (s.hearSelf c).rm = s.rm ∧ (s.hearSelf c).rt = s.rt ∧ (s.hearSelf c).du = s.du ∧
    (s.hearSelf c).cp = s.cp ∧ (s.hearSelf c).halt = s.halt ∧ (s.hearSelf c).rc = s.rc ∧ (s.hearSelf c).ld = s.ld ∧
    (s.hearSelf c).cfg = s.cfg ∧ (s.hearSelf c).free = s.free ∧ (s.hearSelf c).pending = s.pending := by
  unfold State.hearSelf
  (try dsimp only)
  (repeat' split) <;> simp

end Sys2Proof.Machine
end

