-- ==== Sys2Proof/Laws/PortUnchanged.lean ====
section
/-! SUPPORT. What sampling, loading, founding and the collector port leave unchanged: for each operation, the fields of State that it never writes. -/

namespace Sys2Proof.Machine

variable (s : State)

@[simp] theorem State.takePhase_unchanged (c : StationConfig) (samples : Samples) (p : PhasePlan) (k : Mark) :
    (s.takePhase c samples p k).sc = s.sc ∧ (s.takePhase c samples p k).iu = s.iu ∧
    (s.takePhase c samples p k).ti = s.ti ∧ (s.takePhase c samples p k).cb = s.cb ∧
    (s.takePhase c samples p k).rm = s.rm ∧ (s.takePhase c samples p k).rt = s.rt ∧
    (s.takePhase c samples p k).du = s.du ∧ (s.takePhase c samples p k).cp = s.cp ∧
    (s.takePhase c samples p k).halt = s.halt ∧ (s.takePhase c samples p k).rc = s.rc ∧
    (s.takePhase c samples p k).ld = s.ld ∧ (s.takePhase c samples p k).cfg = s.cfg ∧
    (s.takePhase c samples p k).free = s.free ∧ (s.takePhase c samples p k).pending = s.pending := by
  unfold State.takePhase
  (try dsimp only)
  (repeat' split) <;> simp

@[simp] theorem State.judgeRange_unchanged (c : StationConfig) (channel : Channel) (outOfRange : Bool) :
    (s.judgeRange c channel outOfRange).sc = s.sc ∧ (s.judgeRange c channel outOfRange).iu = s.iu ∧
    (s.judgeRange c channel outOfRange).ct = s.ct ∧ (s.judgeRange c channel outOfRange).ti = s.ti ∧
    (s.judgeRange c channel outOfRange).sq = s.sq ∧ (s.judgeRange c channel outOfRange).rt = s.rt ∧
    (s.judgeRange c channel outOfRange).du = s.du ∧ (s.judgeRange c channel outOfRange).halt = s.halt ∧
    (s.judgeRange c channel outOfRange).rc = s.rc ∧ (s.judgeRange c channel outOfRange).ld = s.ld ∧
    (s.judgeRange c channel outOfRange).cfg = s.cfg ∧ (s.judgeRange c channel outOfRange).free = s.free ∧
    (s.judgeRange c channel outOfRange).pending = s.pending := by
  unfold State.judgeRange
  (try dsimp only)
  (repeat' split) <;> simp

@[simp] theorem State.resultOf_unchanged (c : StationConfig) (v : Conversion) (raw : Sample) :
    (s.resultOf c v raw).sc = s.sc ∧ (s.resultOf c v raw).iu = s.iu ∧ (s.resultOf c v raw).ct = s.ct ∧
    (s.resultOf c v raw).ti = s.ti ∧ (s.resultOf c v raw).sq = s.sq ∧ (s.resultOf c v raw).du = s.du ∧
    (s.resultOf c v raw).halt = s.halt ∧ (s.resultOf c v raw).rc = s.rc ∧ (s.resultOf c v raw).ld = s.ld ∧
    (s.resultOf c v raw).cfg = s.cfg ∧ (s.resultOf c v raw).free = s.free ∧ (s.resultOf c v raw).pending = s.pending := by
  unfold State.resultOf
  (try dsimp only)
  (repeat' split) <;> simp

@[simp] theorem State.found_unchanged (c : StationConfig) (now : Instant) :
    (s.found c now).sq = s.sq ∧ (s.found c now).du = s.du ∧ (s.found c now).rc = s.rc ∧ (s.found c now).ld = s.ld ∧
    (s.found c now).cfg = s.cfg ∧ (s.found c now).free = s.free ∧ (s.found c now).pending = s.pending := by
  unfold State.found
  (try dsimp only)
  (repeat' split) <;> simp

@[simp] theorem State.startLoading_unchanged (now : Instant) :
    (s.startLoading now).sc = s.sc ∧ (s.startLoading now).iu = s.iu ∧ (s.startLoading now).ct = s.ct ∧
    (s.startLoading now).ti = s.ti ∧ (s.startLoading now).cb = s.cb ∧ (s.startLoading now).sq = s.sq ∧
    (s.startLoading now).rm = s.rm ∧ (s.startLoading now).rt = s.rt ∧ (s.startLoading now).du = s.du ∧
    (s.startLoading now).cp = s.cp ∧ (s.startLoading now).halt = s.halt ∧ (s.startLoading now).cfg = s.cfg ∧
    (s.startLoading now).free = s.free ∧ (s.startLoading now).pending = s.pending := by
  unfold State.startLoading
  (try dsimp only)
  (repeat' split) <;> simp

@[simp] theorem State.failLoad_unchanged (reason : FaultReason) :
    (s.failLoad reason).rm = s.rm ∧ (s.failLoad reason).du = s.du ∧ (s.failLoad reason).rc = s.rc ∧
    (s.failLoad reason).cfg = s.cfg ∧ (s.failLoad reason).free = s.free ∧ (s.failLoad reason).pending = s.pending := by
  unfold State.failLoad
  (try dsimp only)
  (repeat' split) <;> simp

@[simp] theorem State.leaveLoading_unchanged (c : StationConfig) (now : Instant) :
    (s.leaveLoading c now).ti = s.ti ∧ (s.leaveLoading c now).cb = s.cb ∧ (s.leaveLoading c now).sq = s.sq ∧
    (s.leaveLoading c now).rm = s.rm ∧ (s.leaveLoading c now).rt = s.rt ∧ (s.leaveLoading c now).du = s.du ∧
    (s.leaveLoading c now).cp = s.cp ∧ (s.leaveLoading c now).halt = s.halt ∧ (s.leaveLoading c now).rc = s.rc ∧
    (s.leaveLoading c now).ld = s.ld ∧ (s.leaveLoading c now).cfg = s.cfg ∧ (s.leaveLoading c now).free = s.free ∧
    (s.leaveLoading c now).pending = s.pending := by
  unfold State.leaveLoading
  (try dsimp only)
  (repeat' split) <;> simp

@[simp] theorem State.goodLoad_unchanged (c : StationConfig) (now : Instant) :
    (s.goodLoad c now).ti = s.ti ∧ (s.goodLoad c now).cb = s.cb ∧ (s.goodLoad c now).sq = s.sq ∧
    (s.goodLoad c now).rm = s.rm ∧ (s.goodLoad c now).rt = s.rt ∧ (s.goodLoad c now).du = s.du ∧
    (s.goodLoad c now).halt = s.halt ∧ (s.goodLoad c now).rc = s.rc ∧ (s.goodLoad c now).free = s.free ∧
    (s.goodLoad c now).pending = s.pending := by
  unfold State.goodLoad
  (try dsimp only)
  (repeat' split) <;> simp

@[simp] theorem State.respond_unchanged (code : ResponseCode) (more : List Byte) :
    (s.respond code more).sc = s.sc ∧ (s.respond code more).iu = s.iu ∧ (s.respond code more).ct = s.ct ∧
    (s.respond code more).ti = s.ti ∧ (s.respond code more).cb = s.cb ∧ (s.respond code more).sq = s.sq ∧
    (s.respond code more).rm = s.rm ∧ (s.respond code more).rt = s.rt ∧ (s.respond code more).du = s.du ∧
    (s.respond code more).halt = s.halt ∧ (s.respond code more).rc = s.rc ∧ (s.respond code more).ld = s.ld ∧
    (s.respond code more).cfg = s.cfg ∧ (s.respond code more).free = s.free ∧
    (s.respond code more).pending = s.pending := by
  unfold State.respond
  (try dsimp only)
  (repeat' split) <;> simp

@[simp] theorem State.drawn_unchanged :
    (s.drawn).sc = s.sc ∧ (s.drawn).iu = s.iu ∧ (s.drawn).ct = s.ct ∧ (s.drawn).ti = s.ti ∧ (s.drawn).cb = s.cb ∧
    (s.drawn).sq = s.sq ∧ (s.drawn).rm = s.rm ∧ (s.drawn).rt = s.rt ∧ (s.drawn).du = s.du ∧ (s.drawn).cp = s.cp ∧
    (s.drawn).halt = s.halt ∧ (s.drawn).rc = s.rc ∧ (s.drawn).ld = s.ld ∧ (s.drawn).cfg = s.cfg ∧
    (s.drawn).pending = s.pending := by
  unfold State.drawn
  (try dsimp only)
  (repeat' split) <;> simp

@[simp] theorem State.readHalf_unchanged (start : Byte) :
    (s.readHalf start).sc = s.sc ∧ (s.readHalf start).iu = s.iu ∧ (s.readHalf start).ct = s.ct ∧
    (s.readHalf start).ti = s.ti ∧ (s.readHalf start).cb = s.cb ∧ (s.readHalf start).sq = s.sq ∧
    (s.readHalf start).rm = s.rm ∧ (s.readHalf start).rt = s.rt ∧ (s.readHalf start).du = s.du ∧
    (s.readHalf start).halt = s.halt ∧ (s.readHalf start).rc = s.rc ∧ (s.readHalf start).ld = s.ld ∧
    (s.readHalf start).cfg = s.cfg ∧ (s.readHalf start).pending = s.pending := by
  unfold State.readHalf
  (try dsimp only)
  (repeat' split) <;> simp

@[simp] theorem State.releaseFirst_unchanged (sequence : Word16) :
    (s.releaseFirst sequence).sc = s.sc ∧ (s.releaseFirst sequence).iu = s.iu ∧ (s.releaseFirst sequence).ct = s.ct ∧
    (s.releaseFirst sequence).ti = s.ti ∧ (s.releaseFirst sequence).cb = s.cb ∧ (s.releaseFirst sequence).sq = s.sq ∧
    (s.releaseFirst sequence).rm = s.rm ∧ (s.releaseFirst sequence).rt = s.rt ∧
    (s.releaseFirst sequence).halt = s.halt ∧ (s.releaseFirst sequence).rc = s.rc ∧
    (s.releaseFirst sequence).ld = s.ld ∧ (s.releaseFirst sequence).cfg = s.cfg ∧
    (s.releaseFirst sequence).free = s.free ∧ (s.releaseFirst sequence).pending = s.pending := by
  unfold State.releaseFirst
  (try dsimp only)
  (repeat' split) <;> simp

@[simp] theorem State.closeFilling_unchanged :
    (s.closeFilling).sc = s.sc ∧ (s.closeFilling).iu = s.iu ∧ (s.closeFilling).ct = s.ct ∧
    (s.closeFilling).ti = s.ti ∧ (s.closeFilling).cb = s.cb ∧ (s.closeFilling).sq = s.sq ∧
    (s.closeFilling).rm = s.rm ∧ (s.closeFilling).rt = s.rt ∧ (s.closeFilling).halt = s.halt ∧
    (s.closeFilling).rc = s.rc ∧ (s.closeFilling).ld = s.ld ∧ (s.closeFilling).cfg = s.cfg ∧
    (s.closeFilling).free = s.free ∧ (s.closeFilling).pending = s.pending := by
  unfold State.closeFilling
  (try dsimp only)
  (repeat' split) <;> simp

@[simp] theorem State.takeCaptureCommand_unchanged (total : Byte) :
    (s.takeCaptureCommand total).sc = s.sc ∧ (s.takeCaptureCommand total).iu = s.iu ∧
    (s.takeCaptureCommand total).ct = s.ct ∧ (s.takeCaptureCommand total).ti = s.ti ∧
    (s.takeCaptureCommand total).sq = s.sq ∧ (s.takeCaptureCommand total).rm = s.rm ∧
    (s.takeCaptureCommand total).rt = s.rt ∧ (s.takeCaptureCommand total).du = s.du ∧
    (s.takeCaptureCommand total).halt = s.halt ∧ (s.takeCaptureCommand total).rc = s.rc ∧
    (s.takeCaptureCommand total).ld = s.ld ∧ (s.takeCaptureCommand total).cfg = s.cfg ∧
    (s.takeCaptureCommand total).free = s.free ∧ (s.takeCaptureCommand total).pending = s.pending := by
  unfold State.takeCaptureCommand
  (try dsimp only)
  (repeat' split) <;> simp

@[simp] theorem State.takeHalt_unchanged :
    (s.takeHalt).sc = s.sc ∧ (s.takeHalt).iu = s.iu ∧ (s.takeHalt).ct = s.ct ∧ (s.takeHalt).ti = s.ti ∧
    (s.takeHalt).sq = s.sq ∧ (s.takeHalt).rm = s.rm ∧ (s.takeHalt).rt = s.rt ∧ (s.takeHalt).du = s.du ∧
    (s.takeHalt).halt = s.halt ∧ (s.takeHalt).rc = s.rc ∧ (s.takeHalt).ld = s.ld ∧ (s.takeHalt).cfg = s.cfg ∧
    (s.takeHalt).free = s.free ∧ (s.takeHalt).pending = s.pending := by
  unfold State.takeHalt
  (try dsimp only)
  (repeat' split) <;> simp

@[simp] theorem State.takeResume_unchanged :
    (s.takeResume).sc = s.sc ∧ (s.takeResume).iu = s.iu ∧ (s.takeResume).ct = s.ct ∧ (s.takeResume).ti = s.ti ∧
    (s.takeResume).sq = s.sq ∧ (s.takeResume).rm = s.rm ∧ (s.takeResume).rt = s.rt ∧ (s.takeResume).du = s.du ∧
    (s.takeResume).halt = s.halt ∧ (s.takeResume).rc = s.rc ∧ (s.takeResume).ld = s.ld ∧ (s.takeResume).cfg = s.cfg ∧
    (s.takeResume).free = s.free ∧ (s.takeResume).pending = s.pending := by
  unfold State.takeResume
  (try dsimp only)
  (repeat' split) <;> simp

@[simp] theorem State.takeJoin_unchanged (now : Instant) :
    (s.takeJoin now).ti = s.ti ∧ (s.takeJoin now).cb = s.cb ∧ (s.takeJoin now).sq = s.sq ∧
    (s.takeJoin now).rm = s.rm ∧ (s.takeJoin now).rt = s.rt ∧ (s.takeJoin now).du = s.du ∧
    (s.takeJoin now).halt = s.halt ∧ (s.takeJoin now).rc = s.rc ∧ (s.takeJoin now).ld = s.ld ∧
    (s.takeJoin now).cfg = s.cfg ∧ (s.takeJoin now).free = s.free ∧ (s.takeJoin now).pending = s.pending := by
  unfold State.takeJoin
  (try dsimp only)
  (repeat' split) <;> simp

@[simp] theorem State.takeLeaveCommand_unchanged :
    (s.takeLeaveCommand).cb = s.cb ∧ (s.takeLeaveCommand).sq = s.sq ∧ (s.takeLeaveCommand).rm = s.rm ∧
    (s.takeLeaveCommand).rt = s.rt ∧ (s.takeLeaveCommand).du = s.du ∧ (s.takeLeaveCommand).halt = s.halt ∧
    (s.takeLeaveCommand).rc = s.rc ∧ (s.takeLeaveCommand).ld = s.ld ∧ (s.takeLeaveCommand).cfg = s.cfg ∧
    (s.takeLeaveCommand).free = s.free ∧ (s.takeLeaveCommand).pending = s.pending := by
  unfold State.takeLeaveCommand
  (try dsimp only)
  (repeat' split) <;> simp

@[simp] theorem State.idleStep_unchanged :
    (s.idleStep).sc = s.sc ∧ (s.idleStep).iu = s.iu ∧ (s.idleStep).ct = s.ct ∧ (s.idleStep).cb = s.cb ∧
    (s.idleStep).sq = s.sq ∧ (s.idleStep).rm = s.rm ∧ (s.idleStep).rt = s.rt ∧ (s.idleStep).du = s.du ∧
    (s.idleStep).cp = s.cp ∧ (s.idleStep).halt = s.halt ∧ (s.idleStep).rc = s.rc ∧ (s.idleStep).ld = s.ld ∧
    (s.idleStep).cfg = s.cfg ∧ (s.idleStep).free = s.free ∧ (s.idleStep).pending = s.pending := by
  unfold State.idleStep
  (try dsimp only)
  (repeat' split) <;> simp

end Sys2Proof.Machine
end

