-- ==== Sys2Proof/Laws/Flags.lean ====
section
/-! SUPPORT. What the shared operations do to the collector port, the event flags and the counts; sets of station ids. -/

namespace Sys2Proof.Machine

/-- Raising a flag changes the flags alone. -/
@[simp] theorem State.raise_cp (f : EventFlag) (s : State) : (s.raise f).cp = { s.cp with flags := s.cp.flags ||| f.mask } := rfl

/-- A response changes the response alone. -/
@[simp] theorem State.respond_cp (code : ResponseCode) (more : List Byte) (s : State) :
    (s.respond code more).cp = { s.cp with response := some (code.byte :: more) } := rfl

/-- A refusal records reason and serial and raises REFUSED. -/
@[simp] theorem State.refuse_cp (reason : RefusalReason) (serial : Byte) (s : State) :
    (s.refuse reason serial).cp =
      { s.cp with flags := s.cp.flags ||| EventFlag.refused.mask, lastRefusal := some (reason, serial) } := rfl

/-- A raised flag is set. -/
theorem State.flag_raise_self (f : EventFlag) (s : State) : (s.raise f).flag f = true := by
  cases f <;> simp [State.flag, EventFlag.mask, EventFlag.bit]

/-- Raising a flag leaves every other flag as it was. -/
theorem State.flag_raise_other (f g : EventFlag) (s : State) (h : g ≠ f) : (s.raise f).flag g = s.flag g := by
  cases f <;> cases g <;> first | (exact absurd rfl h) | simp [State.flag, EventFlag.mask, EventFlag.bit]

theorem saturate255_le (n : Nat) : saturate255 n ≤ 255 := by unfold saturate255; split <;> omega

theorem saturate65535_le (n : Nat) : saturate65535 n ≤ 65535 := by unfold saturate65535; split <;> omega

/-- What a command of the port does, when the port takes it and when it does not. -/
theorem State.portCommand_taken {s : State} (h : s.portTakes = true) (effect : State) : s.portCommand effect = effect := by
  simp [State.portCommand, h]

theorem State.portCommand_ignored {s : State} (h : s.portTakes = false) (effect : State) : s.portCommand effect = s := by
  simp [State.portCommand, h]

/-- With a configuration, a configured operation is the operation on it. -/
theorem State.configured_some {s : State} {c : StationConfig} (h : s.cfg = some c) (f : StationConfig → State) :
    s.configured f = f c := by simp [State.configured, h]

theorem State.configured_none {s : State} (h : s.cfg = none) (f : StationConfig → State) : s.configured f = s := by
  simp [State.configured, h]

/-- Byte by byte, what is clocked out on MISO while a response is held (R168, R191). -/
theorem State.misoByte_held {s : State} {r : List Byte} (h : s.cp.response = some r) (hl : s.rc.resetnLow = false) (n : Nat) :
    s.misoByte n = some (r.getD n 0xFF) := by simp [State.misoByte, State.drivesMiso, h, hl]

theorem State.misoByte_released {s : State} (h : s.cp.response = none ∨ s.rc.resetnLow = true) (n : Nat) : s.misoByte n = none := by
  rcases h with h | h <;> simp [State.misoByte, State.drivesMiso, h]

/-! ### Sets of station ids -/

@[simp] theorem IdSet.has_add (x : IdSet) (i j : StationId) : IdSet.has (IdSet.add x i) j = (IdSet.has x j || decide (j = i)) := by
  have single : ∀ i j : StationId, (1#16 <<< i.val).getLsbD j.val = decide (j = i) := by decide
  simp only [IdSet.has, IdSet.add, IdSet.single, BitVec.getLsbD_or, single]

@[simp] theorem IdSet.has_minus (x y : IdSet) (i : StationId) :
    IdSet.has (IdSet.minus x y) i = (IdSet.has x i && !IdSet.has y i) := by
  simp [IdSet.has, IdSet.minus]

@[simp] theorem IdSet.has_ofList (l : List StationId) (i : StationId) : IdSet.has (IdSet.ofList l) i = decide (i ∈ l) := by
  induction l with
  | nil => simp [IdSet.ofList, IdSet.has]
  | cons j l ih => simp [IdSet.ofList, ih, Bool.or_comm]

theorem IdSet.within_iff (x y : IdSet) : IdSet.within x y = true ↔ ∀ i, IdSet.has x i = true → IdSet.has y i = true := by
  simp only [IdSet.within, beq_iff_eq]
  constructor
  · intro h i hx
    have hm := IdSet.has_minus x y i
    rw [h, hx] at hm
    simpa [IdSet.has] using hm
  · intro h
    refine BitVec.eq_of_getLsbD_eq fun i hi => ?_
    have := h ⟨i, hi⟩
    simp only [IdSet.has, IdSet.minus] at this ⊢
    cases hx : x.getLsbD i <;> simp_all

end Sys2Proof.Machine
end

