-- ==== Sys2Proof/Laws/Transport.lean ====
section
/-! SUPPORT. What each operation of the record transport and of the control item buffer does to their laws (R110, R145). -/

namespace Sys2Proof.Machine

theorem RecordTransport.empty_wf : RecordTransport.empty.wf := by simp [RecordTransport.wf, RecordTransport.occupancy, RecordTransport.empty]

/-- A return keeps every place and empties the frame in flight. -/
@[simp] theorem RecordTransport.returned_occupancy (t : RecordTransport) : t.returned.occupancy = t.occupancy := by
  simp [RecordTransport.occupancy, RecordTransport.returned, Nat.add_comm]

@[simp] theorem RecordTransport.returned_inFlight (t : RecordTransport) : t.returned.inFlight = [] := rfl

/-- From an empty frame in flight, packing keeps every place and takes at most 12 records. -/
theorem RecordTransport.pack_occupancy (t : RecordTransport) (h : t.inFlight = []) : t.pack.occupancy = t.occupancy := by
  simp [RecordTransport.occupancy, RecordTransport.pack, h]; omega

theorem RecordTransport.pack_inFlight_le (t : RecordTransport) : t.pack.inFlight.length ≤ 12 := by
  simp [RecordTransport.pack]

theorem RecordTransport.returned_wf {t : RecordTransport} (h : t.wf) : t.returned.wf := by
  simp only [RecordTransport.wf, RecordTransport.returned_occupancy, RecordTransport.returned_inFlight]
  exact ⟨h.1, by simp⟩

theorem RecordTransport.repacked_wf {t : RecordTransport} (h : t.wf) : t.returned.pack.wf :=
  ⟨by rw [RecordTransport.pack_occupancy _ rfl, RecordTransport.returned_occupancy]; exact h.1, RecordTransport.pack_inFlight_le _⟩

theorem RecordTransport.discarded_wf (t : RecordTransport) : t.discarded.wf := by
  simp [RecordTransport.wf, RecordTransport.occupancy, RecordTransport.discarded]

theorem RecordTransport.enter_wf {t : RecordTransport} (h : t.wf) (r : Record) : (t.enter r).wf := by
  unfold RecordTransport.enter
  split
  · rename_i hlt
    refine ⟨?_, h.2⟩
    simp only [RecordTransport.occupancy, List.length_append, List.length_singleton] at *
    omega
  · exact h

/-- The records of a frame whose readback matched leave the station. -/
theorem RecordTransport.sent_wf {t : RecordTransport} (h : t.wf) : RecordTransport.wf { t with inFlight := [] } := by
  have := h.1
  simp only [RecordTransport.wf, RecordTransport.occupancy, List.length_nil] at *
  omega

/-- A discard empties the pending set and keeps the serial counter. -/
theorem ItemBuffer.discarded_isEmpty (b : ItemBuffer) : b.discarded.isEmpty := by
  simp [ItemBuffer.isEmpty, ItemBuffer.discarded, ItemBuffer.afterReset]

@[simp] theorem ItemBuffer.discarded_serial (b : ItemBuffer) : b.discarded.serial = b.serial := rfl

theorem ItemBuffer.sent_isEmpty {b : ItemBuffer} (h : b.isEmpty) (items : List Item) : (b.sent items).isEmpty := by
  obtain ⟨h1, h2, h3, h4, h5⟩ := h
  simp [ItemBuffer.isEmpty, ItemBuffer.sent, h1, h2, h3, h4, h5]

theorem ItemBuffer.sent_exclusive {b : ItemBuffer} (h : ¬ (b.haltReq = true ∧ b.resumeReq = true)) (items : List Item) :
    ¬ ((b.sent items).haltReq = true ∧ (b.sent items).resumeReq = true) := by
  simp only [ItemBuffer.sent, Bool.and_eq_true]
  rintro ⟨⟨h1, _⟩, ⟨h2, _⟩⟩
  exact h ⟨h1, h2⟩

end Sys2Proof.Machine
end

