-- ==== Sys2Proof/Laws/Delivery.lean ====
section
/-! SUPPORT. Every operation of the delivery unit keeps its law (R158). -/

namespace Sys2Proof.Machine

theorem DeliveryUnit.afterReset_wf : DeliveryUnit.afterReset.wf = true := by decide

/-- The close of a FILLING half that holds 1 to 64 records keeps the law; its records need not have been below 64. -/
theorem DeliveryUnit.closeHalf_wf {d : DeliveryUnit} {h : HalfId} {r : List Delivered} {a : Nat} (hw : d.wf = true)
    (hf : (d.get h).isFilling = true) (h1 : 1 ≤ r.length) (h2 : r.length ≤ 64) (cause : CloseCause) (p : Bool) :
    (DeliveryUnit.closeHalf { d.set h (.filling r a) with droppedPending := p } h cause).wf = true := by
  obtain ⟨x0, x1, counter, first, dp, n⟩ := d
  cases h <;> cases x0 <;> cases x1 <;>
    simp_all [DeliveryUnit.wf, DeliveryUnit.closeHalf, DeliveryUnit.get, DeliveryUnit.set, HalfId.other, Half.startedIfFree,
      Half.isFree, Half.isClosed, Half.isFilling, Half.records]

/-- A FILLING half that takes records short of 64 keeps the law. -/
theorem DeliveryUnit.set_filling_wf {d : DeliveryUnit} {h : HalfId} {r : List Delivered} {a : Nat} (hw : d.wf = true)
    (hf : (d.get h).isFilling = true) (h2 : r.length < 64) (ha : a ≤ 255) (p : Bool) :
    DeliveryUnit.wf { d.set h (.filling r a) with droppedPending := p } = true := by
  obtain ⟨x0, x1, counter, first, dp, n⟩ := d
  cases h <;> cases x0 <;> cases x1 <;> simp_all [DeliveryUnit.wf, DeliveryUnit.get, DeliveryUnit.set, Half.isFilling]

theorem DeliveryUnit.filling_isFilling {d : DeliveryUnit} {h : HalfId} (hf : d.filling = some h) :
    (d.get h).isFilling = true := by
  unfold DeliveryUnit.filling at hf
  split at hf
  · cases hf; assumption
  · split at hf
    · cases hf; assumption
    · cases hf

/-- The FILLING half holds fewer than 64 records and its age is at most 255. -/
theorem DeliveryUnit.filling_bounds {d : DeliveryUnit} {h : HalfId} (hw : d.wf = true) (hf : d.filling = some h) :
    (d.get h).records.length < 64 ∧ (d.get h).age ≤ 255 := by
  have hf' := DeliveryUnit.filling_isFilling hf
  obtain ⟨x0, x1, counter, first, dp, n⟩ := d
  cases h <;> cases x0 <;> cases x1 <;>
    simp_all [DeliveryUnit.wf, DeliveryUnit.get, Half.isFilling, Half.records, Half.age]

theorem DeliveryUnit.releaseHalf_wf {d : DeliveryUnit} {h : HalfId} (hw : d.wf = true) (hc : (d.get h).isClosed = true) :
    (d.releaseHalf h).wf = true := by
  obtain ⟨x0, x1, counter, first, dp, n⟩ := d
  cases h <;> cases x0 <;> cases x1 <;>
    simp_all [DeliveryUnit.wf, DeliveryUnit.releaseHalf, DeliveryUnit.get, DeliveryUnit.set, HalfId.other, Half.isClosed,
      Half.isFilling]

theorem State.placeIn_wf {s : State} {h : HalfId} (hw : s.du.wf = true) (hf : s.du.filling = some h) (origin : StationId)
    (r : Record) : (s.placeIn h origin r).du.wf = true := by
  have hb := DeliveryUnit.filling_bounds hw hf
  have hi := DeliveryUnit.filling_isFilling hf
  unfold State.placeIn
  dsimp only
  split
  · exact DeliveryUnit.closeHalf_wf hw hi (by simp) (by simp; omega) .full false
  · rename_i hlt
    exact DeliveryUnit.set_filling_wf hw hi (by omega) hb.2 false

theorem State.dropRecord_wf {s : State} (hw : s.du.wf = true) : s.dropRecord.du.wf = true := by
  have := saturate65535_le s.du.dropped
  simp only [State.dropRecord, State.raise, State.setCp_du, State.setDu_du]
  simp only [DeliveryUnit.wf, Bool.and_eq_true, decide_eq_true_eq] at hw ⊢
  exact ⟨hw.1, this⟩

theorem State.deliver_wf {s : State} (hw : s.du.wf = true) (origin : StationId) (r : Record) : (s.deliver origin r).du.wf = true := by
  unfold State.deliver
  split
  · exact State.placeIn_wf hw (by assumption) origin r
  · exact State.dropRecord_wf hw

theorem State.handOver_wf {s : State} (hw : s.du.wf = true) (c : StationConfig) (origin : StationId) (records : List Record) :
    (s.handOver c origin records).du.wf = true := by
  unfold State.handOver
  generalize records.filter (accepts c origin) = l
  induction l generalizing s with
  | nil => exact hw
  | cons r l ih => exact ih (State.deliver_wf hw origin r)

theorem State.ageHalf_wf {s : State} (hw : s.du.wf = true) (c : StationConfig) : (s.ageHalf c).du.wf = true := by
  unfold State.ageHalf
  split
  · rename_i h hf
    have hb := DeliveryUnit.filling_bounds hw hf
    have hi := DeliveryUnit.filling_isFilling hf
    dsimp only
    split
    · exact hw
    · rename_i hne
      have hpos : 1 ≤ (s.du.get h).records.length := by
        rcases hr : (s.du.get h).records with _ | ⟨x, l⟩
        · simp [hr] at hne
        · simp
      split
      · have hk := DeliveryUnit.closeHalf_wf (a := (s.du.get h).age + 1) hw hi hpos (by omega) .age s.du.droppedPending
        cases h <;> exact hk
      · split
        · have hk := DeliveryUnit.set_filling_wf (a := (s.du.get h).age + 1) hw hi hb.1 (by assumption) s.du.droppedPending
          cases h <;> exact hk
        · have hk := DeliveryUnit.set_filling_wf (a := (Config.closeAgePast255 s.free).toNat) hw hi hb.1 (by have := (Config.closeAgePast255 s.free).isLt; omega) s.du.droppedPending
          cases h <;> exact hk
  · exact hw

end Sys2Proof.Machine
end

