-- ==== Sys2Proof/Laws/FrameEnd.lean ====
section
/-! SUPPORT. A frame end, its parts one by one: what FRAME_END runs, and when a part does nothing. -/

namespace Sys2Proof.Machine

/-- FRAME_END at a station whose receiver is inside a frame. -/
theorem exec_frameEnd {s : State} {c : StationConfig} {w : Bool} (hc : s.cfg = some c) (hr : s.ti.receiving = some w)
    (hon : s.receiverOn = true) (now : Instant) (line : List Bool) :
    exec (.frameEnd now line) s = .next (s.frameEnd c now line w) := by
  simp [exec, execFrameEnd, State.configured, hc, hr, hon]

/-- Without a frame of its own in the transmitter the station classifies what it heard. -/
theorem State.frameEnd_idle {s : State} (h : s.ti.tx = .idle) (c : StationConfig) (now : Instant) (line : List Bool) (w : Bool) :
    s.frameEnd c now line w =
      (let closing := w && s.ct.state == .window
       let handled := (s.setTi { s.ti with receiving := none }).classify c now closing w line
       let settled := (handled.state.settle c now closing handled.timing).refreshArmed
       settled.takeDeferredLeave.finish c now closing handled.origin (settled.judgedRecords handled.records)) := by
  simp [State.frameEnd, State.readbackMatched, State.frameInFlight, h, State.abandonArmedJoin]

theorem State.refreshArmed_of_not_armed {s : State} (h : s.ti.tx ≠ .armed) : s.refreshArmed = s := by
  unfold State.refreshArmed; split <;> simp_all

theorem State.takeDeferredLeave_of_none {s : State} (h : s.sc.deferredLeave = false) : s.takeDeferredLeave = s := by
  simp [State.takeDeferredLeave, h]

theorem State.settle_restart {s : State} (h : s.ct.state = .slots) (c : StationConfig) (now : Instant) :
    s.settle c now false .restart = s.setCt { s.ct with silence := some (now + silenceOf c) } := by
  simp [State.settle, h]

/-- A frame end that closes the window leaves pointer and silence timer (R31). -/
@[simp] theorem State.settle_closing (s : State) (c : StationConfig) (now : Instant) (timing : Timing) :
    s.settle c now true timing = s := by simp [State.settle]

@[simp] theorem State.finish_open (s : State) (c : StationConfig) (now : Instant) (origin : StationId) (records : List Record) :
    s.finish c now false origin records = s.handOver c origin records := by simp [State.finish]

@[simp] theorem State.handOver_nil (s : State) (c : StationConfig) (origin : StationId) : s.handOver c origin [] = s := by
  simp [State.handOver]

/-- What the halves become at a hand-over depends on the halves alone. -/
theorem State.handOver_du_congr {s t : State} (h : s.du = t.du) (c : StationConfig) (origin : StationId) (records : List Record) :
    (s.handOver c origin records).du = (t.handOver c origin records).du := by
  unfold State.handOver
  generalize records.filter (accepts c origin) = l
  induction l generalizing s t with
  | nil => exact h
  | cons x l ih =>
    refine ih ?_
    unfold State.deliver
    rw [h]
    split
    · unfold State.placeIn
      simp only [h]
      split <;> simp [State.closeHalf]
    · simp [State.dropRecord, h]

/-- What items do to the image and its marks depends on the image unit and the items alone. -/
theorem State.applyItems_iu_congr {s t : State} (h : s.iu = t.iu) (own sender : StationId) (items : List Item) :
    (s.applyItems own sender items).iu = (t.applyItems own sender items).iu := by
  unfold State.applyItems
  induction items generalizing s t with
  | nil => exact h
  | cons x l ih =>
    refine ih ?_
    unfold State.applyItem
    rw [h]
    split
    · dsimp only
      (repeat' split) <;> simp
    · exact h

/-- R62: a deferred LEAVE takes a LISTEN station to IDLE. -/
theorem State.takeDeferredLeave_listen {s : State} (hs : s.sc.state = .listen) (hl : s.sc.deferredLeave = true)
    (ht : s.ti.tx ≠ .aborting) :
    s.takeDeferredLeave = (s.setSc { s.sc with joiningWanted := false }).enterIdle := by
  simp [State.takeDeferredLeave, State.takeLeave, hs, hl, ht]

/-- R31: a frame that closes the window ends the cycle; with no record to hand on it does nothing else. -/
theorem State.finish_closing_nil {s : State} (h : s.ct.state = .window) (c : StationConfig) (now : Instant) (origin : StationId) :
    s.finish c now true origin [] = s.cycleEnd c now := by
  simp [State.finish, State.closeWindow, h]

/-- The pointer takes the value given, at a MEMBER; the other parts of the CT that a summary set stand. -/
theorem State.movePointer_member {s : State} (h : s.sc.state = .member) (c : StationConfig) (now : Instant) (p : Nat) :
    (s.movePointer c now p).ct.pointer = p ∧ (s.movePointer c now p).sc = s.sc ∧ (s.movePointer c now p).cp = s.cp ∧
      (s.movePointer c now p).ct.heard = s.ct.heard ∧ (s.movePointer c now p).ct.summarySeen = s.ct.summarySeen ∧
      (s.movePointer c now p).ct.mark = s.ct.mark ∧ (s.movePointer c now p).ct.nextOpening = s.ct.nextOpening ∧
      (s.movePointer c now p).ct.plan = s.ct.plan ∧ (s.movePointer c now p).ti.errors = s.ti.errors ∧
      (s.movePointer c now p).ti.foreign = s.ti.foreign ∧ (s.movePointer c now p).ti.inconsistent = s.ti.inconsistent := by
  have assembled : ∀ u : State, (u.assembleBeat c now).ti.errors = u.ti.errors ∧ (u.assembleBeat c now).ti.foreign = u.ti.foreign ∧
      (u.assembleBeat c now).ti.inconsistent = u.ti.inconsistent := by
    intro u
    unfold State.assembleBeat
    split <;> (try split) <;> simp
  unfold State.movePointer
  dsimp only
  split
  · unfold State.slotBegins
    dsimp only
    (repeat' split) <;> simp [assembled]
  · simp [State.windowOpens, h]

/-- R67, R68: the judgment at the opening of the join window is the one that the statements describe. -/
theorem State.judgeJoin_joinJudged {s : State} {m : Image} (hl : s.sc.state = .listen) (hm : s.iu.image = some m) (c : StationConfig)
    (now : Instant) : (s.judgeJoin c now).joinJudged c m now s.ct.summarySeen s.sc s.ti := by
  unfold State.joinJudged State.judgeJoin State.joinHoldReason
  rw [hm]
  cases hw : s.sc.joiningWanted <;> cases hh : s.sc.holdoff <;> cases hseen : s.ct.summarySeen <;> cases hlist : m.lists c.id <;>
    simp [hw, hh, hlist]
  refine ⟨fun h => ?_, fun h => ?_⟩
  · simp [h]
  · rw [if_neg (by omega)]
    refine ⟨fun hd => ?_, fun hd => ?_⟩
    · simp [hd, guardOf, silenceOf, microseconds]
    · simp [hd, State.enterFault, hl, State.offTrunk, State.raise, State.flag, TrunkInterface.noFrame, EventFlag.mask, EventFlag.bit]

/-- Where the pointer stood and when the silence timer would expire are nothing to a move of the pointer. -/
theorem State.movePointer_setCt (s : State) (c : StationConfig) (now : Instant) (p q : Nat) (e : Option Instant) :
    (s.setCt { s.ct with pointer := q, silence := e }).movePointer c now p = s.movePointer c now p := rfl

/-- R25: SLOT_PASSES moves the pointer on by one. -/
theorem State.exec_slotPasses_setCt {s : State} {c : StationConfig} (hcfg : s.cfg = some c) (h : s.ct.state = .slots) (now : Instant)
    (p : Nat) :
    exec .slotPasses (s.setCt { s.ct with pointer := p, silence := some now }) = .next (s.movePointer c now (p + 1)) := by
  rw [← s.movePointer_setCt c now (p + 1) p (some now)]
  simp [exec, execSlotPasses, State.configured, hcfg, h]

/-- R26: a listed sender's frame moves the pointer as SLOT_PASSES moves it from the sender's slot. -/
theorem State.settle_listed {s : State} {c : StationConfig} {p : Nat} (h : s.ct.state = .slots) (hp : s.ct.pointer ≤ p) (now : Instant) :
    s.settle c now false (.listed p) = s.movePointer c now (p + 1) := by simp [State.settle, h, hp]

/-- R26, R37, R38: the pointer that a summary set begins the slot after it, or the join window. -/
theorem State.settle_set {s : State} {c : StationConfig} (h : s.ct.state = .slots) (now : Instant) :
    s.settle c now false .set = s.movePointer c now s.ct.pointer := by simp [State.settle, h]

end Sys2Proof.Machine
end

