-- ==== Sys2Proof/Laws/Image.lean ====
section
/-! SUPPORT. What arriving items and cycle ends do to the roster and queue laws of an image. -/

namespace Sys2Proof.Machine

/-- Distinct requesters: the head differs from every other, and the rest are distinct. -/
theorem distinctRequesters_cons (r : Request) (q : List Request) :
    distinctRequesters (r :: q) = true ↔ (∀ x ∈ q, x.requester ≠ r.requester) ∧ distinctRequesters q = true := by
  simp [distinctRequesters]

/-- A requester that the queue does not hold joins at the tail. -/
theorem distinctRequesters_append (q : List Request) (r : Request) (hq : distinctRequesters q = true)
    (hr : ∀ x ∈ q, x.requester ≠ r.requester) : distinctRequesters (q ++ [r]) = true := by
  induction q with
  | nil => simp [distinctRequesters]
  | cons x q ih =>
    rw [distinctRequesters_cons] at hq
    rw [List.cons_append, distinctRequesters_cons]
    refine ⟨fun y hy => ?_, ih hq.2 (fun z hz => hr z (List.mem_cons_of_mem _ hz))⟩
    rcases List.mem_append.mp hy with hy | hy
    · exact hq.1 y hy
    · rw [List.mem_singleton.mp hy]
      exact (hr x List.mem_cons_self).symm

/-- An image without a request of a station: neither its queue nor its active capture has one. -/
theorem Image.ownRequest_none {m : Image} {i : StationId} (h : (m.ownRequest i).isSome = false) :
    (∀ r ∈ m.queue, r.requester ≠ i) ∧ ∀ k, m.capture = some k → k.request.requester ≠ i := by
  unfold Image.ownRequest at h
  split at h
  · rename_i c hc
    split at h
    · simp at h
    · rename_i hne
      simp only [Option.isSome_eq_false_iff, Option.isNone_iff_eq_none, List.find?_eq_none,
        decide_eq_true_eq] at h
      exact ⟨h, fun k hk => by rw [hc] at hk; cases hk; exact hne⟩
  · rename_i hc
    simp only [Option.isSome_eq_false_iff, Option.isNone_iff_eq_none, List.find?_eq_none, decide_eq_true_eq] at h
    exact ⟨h, fun k hk => by rw [hc] at hk; cases hk⟩

/-- No item changes the roster. -/
@[simp] theorem Image.arrive_roster (m : Image) (k : Marks) (sender : StationId) (item : Item) :
    (m.arrive k sender item).1.roster = m.roster := by
  cases item with
  | haltAck =>
    simp only [Image.arrive, Image.arriveAck]
    split
    · split <;> rfl
    · rfl
  | resumeReq => rfl
  | haltReq => simp only [Image.arrive, Image.arriveHalt]; split <;> rfl
  | priorityReq cause total serial => simp only [Image.arrive, Image.arrivePriority]; (repeat' split) <;> rfl
  | leave => rfl

/-- Every item keeps the roster and queue laws. -/
theorem Image.arrive_laws {m : Image} (h : m.laws) (k : Marks) (sender : StationId) (item : Item) :
    (m.arrive k sender item).1.laws := by
  have hr : (m.arrive k sender item).1.rosterOk = true := by
    have := h.1
    simpa [Image.rosterOk, Image.ids] using this
  refine ⟨hr, ?_⟩
  cases item with
  | haltAck =>
    simp only [Image.arrive, Image.arriveAck]
    split
    · split
      · exact h.2
      · exact h.2
    · exact h.2
  | resumeReq => exact h.2
  | haltReq =>
    simp only [Image.arrive, Image.arriveHalt]
    split
    · exact ⟨by simp, by simp [distinctRequesters], fun _ _ r hr => by simp at hr⟩
    · exact h.2
  | priorityReq cause total serial =>
    simp only [Image.arrive, Image.arrivePriority]
    split
    · exact h.2
    · split
      · exact h.2
      · split
        · exact h.2
        · rename_i hfull
          split
          · exact h.2
          · rename_i hown
            have ho := Image.ownRequest_none (by simpa using hown)
            refine ⟨?_, distinctRequesters_append _ _ h.2.2.1 ho.1, ?_⟩
            · simp; omega
            · intro c hc r hr
              rcases List.mem_append.mp hr with hr | hr
              · exact h.2.2.2 c hc r hr
              · rw [List.mem_singleton.mp hr]
                exact (ho.2 c hc).symm
  | leave => exact h.2

/-- Promotion keeps the queue law. -/
theorem Image.promote_queueLaw {m : Image} (h : m.queueLaw) : m.promote.queueLaw := by
  unfold Image.promote
  split
  · rename_i r rest hq
    split
    · have hd := h.2.1
      rw [hq, distinctRequesters_cons] at hd
      have hl := h.1
      rw [hq] at hl
      refine ⟨by simp at hl ⊢; omega, hd.2, ?_⟩
      intro k hk x hx
      cases hk
      exact hd.1 x hx
    · exact h
  · exact h

/-- Promotion leaves the rest of the image. -/
@[simp] theorem Image.promote_unchanged (m : Image) :
    m.promote.epoch = m.epoch ∧ m.promote.cycle = m.cycle ∧ m.promote.digest = m.digest ∧ m.promote.roster = m.roster ∧
      m.promote.run = m.run ∧ m.promote.gather = m.gather ∧ m.promote.cursor = m.cursor := by
  unfold Image.promote
  split
  · split <;> simp
  · simp

/-- An active capture that goes on is of the same requester. -/
theorem capturePart_requester {capture : Option Capture} {cancel : Bool} {k : Capture}
    (h : capturePart capture cancel = some k) : ∃ c, capture = some c ∧ k.request = c.request := by
  unfold capturePart at h
  split at h
  · rename_i c
    split at h
    · cases h
    · split at h
      · cases h; exact ⟨c, rfl, rfl⟩
      · cases h
  · cases h

/-- The cycle end keeps the queue law. -/
theorem Image.cycleEnd_queueLaw {m : Image} (h : m.queueLaw) (k : Marks) (heard : IdSet) (plan : Option PhasePlan)
    (ownDigest : Digest) (planLength : Nat) : (m.cycleEnd k heard plan ownDigest planLength).queueLaw := by
  refine Image.promote_queueLaw ⟨h.1, h.2.1, ?_⟩
  intro c hc r hr
  obtain ⟨c', hc', he⟩ := capturePart_requester hc
  rw [he]
  exact h.2.2 c' hc' r hr

end Sys2Proof.Machine
end

