-- ==== Sys2Proof/Laws/Roster.lean ====
section
/-! SUPPORT. What the cycle end does to the roster law of an image. -/

namespace Sys2Proof.Machine

/-- Ascending ids, pair by pair. -/
theorem idsAscending_iff (l : List StationId) : idsAscending l = true ↔ l.Pairwise (· < ·) := by
  rw [← List.isChain_iff_pairwise]
  induction l with
  | nil => simp [idsAscending]
  | cons x l ih =>
    cases l with
    | nil => simp [idsAscending]
    | cons y l => simp only [idsAscending, Bool.and_eq_true, decide_eq_true_eq, ih, List.isChain_cons_cons]

/-- The cycle end of an entry keeps its id and a missed count of at most 2. -/
theorem RosterEntry.cycleEnd_some {heard : IdSet} {e e' : RosterEntry} (h : e.cycleEnd heard = some e') :
    e'.id = e.id ∧ (e.missed ≤ 2 → e'.missed ≤ 2) := by
  unfold RosterEntry.cycleEnd at h
  split at h
  · cases h; simp
  · split at h
    · cases h; simp
    · split at h
      · cases h; simp; omega
      · cases h

/-- The ids that stay form a sublist of the roster's. -/
theorem rosterKept_ids_sublist (roster : List RosterEntry) (k : Marks) (heard : IdSet) :
    ((rosterKept roster k heard).map (·.id)).Sublist (roster.map (·.id)) := by
  have h : ∀ l : List RosterEntry, ((l.filterMap (RosterEntry.cycleEnd heard)).map (·.id)).Sublist (l.map (·.id)) := by
    intro l
    induction l with
    | nil => simp
    | cons e l ih =>
      simp only [List.filterMap_cons, List.map_cons]
      split
      · exact ih.cons _
      · rename_i e' he
        rw [List.map_cons, (RosterEntry.cycleEnd_some he).1]
        exact ih.cons_cons _
  exact (h _).trans (List.filter_sublist.map _)

/-- Every entry that stays has a missed count of at most 2. -/
theorem rosterKept_missed {roster : List RosterEntry} (h : ∀ e ∈ roster, e.missed ≤ 2) (k : Marks) (heard : IdSet) :
    ∀ e ∈ rosterKept roster k heard, e.missed ≤ 2 := by
  intro e he
  obtain ⟨a, ha, hc⟩ := List.mem_filterMap.mp he
  exact (RosterEntry.cycleEnd_some hc).2 (h a (List.mem_filter.mp ha).1)

/-- The entries after an insertion. -/
theorem mem_insertEntry (e x : RosterEntry) (l : List RosterEntry) : x ∈ insertEntry e l ↔ x = e ∨ x ∈ l := by
  induction l with
  | nil => simp [insertEntry]
  | cons y l ih =>
    simp only [insertEntry]
    split
    · simp
    · simp only [List.mem_cons, ih]; tauto

@[simp] theorem insertEntry_length (e : RosterEntry) (l : List RosterEntry) : (insertEntry e l).length = l.length + 1 := by
  induction l with
  | nil => rfl
  | cons y l ih =>
    simp only [insertEntry]
    split
    · rfl
    · simp [ih]

/-- An id that the list does not hold is inserted at its place. -/
theorem insertEntry_ascending (e : RosterEntry) (l : List RosterEntry) (hl : (l.map (·.id)).Pairwise (· < ·))
    (he : e.id ∉ l.map (·.id)) : ((insertEntry e l).map (·.id)).Pairwise (· < ·) := by
  induction l with
  | nil => simp [insertEntry]
  | cons y l ih =>
    simp only [insertEntry]
    rw [List.map_cons, List.pairwise_cons] at hl
    rw [List.map_cons, List.mem_cons, not_or] at he
    split
    · rename_i hlt
      rw [List.map_cons, List.map_cons, List.pairwise_cons, List.pairwise_cons]
      refine ⟨fun i hi => ?_, hl⟩
      rcases List.mem_cons.mp hi with rfl | hi
      · exact hlt
      · exact lt_trans hlt (hl.1 i hi)
    · rename_i hge
      rw [List.map_cons, List.pairwise_cons]
      refine ⟨fun i hi => ?_, ih hl.2 he.2⟩
      obtain ⟨x, hx, rfl⟩ := List.mem_map.mp hi
      rcases (mem_insertEntry e x l).mp hx with rfl | hx
      · exact lt_of_le_of_ne (not_lt.mp hge) (Ne.symm he.1)
      · exact hl.1 _ (List.mem_map_of_mem hx)

/-- R72: an admitted entry is of a station that the image does not list, and there is a place for it. -/
theorem Image.admission_some {m : Image} {k : Marks} {heard : IdSet} {e : RosterEntry} (h : m.admission k heard = some e) :
    e.id ∉ m.ids ∧ (rosterKept m.roster k heard).length < 16 ∧ e.missed = 0 := by
  unfold Image.admission at h
  split at h
  · split at h
    · rename_i hc
      simp only [Bool.and_eq_true, Bool.not_eq_true', decide_eq_true_eq, Image.lists] at hc
      cases h
      exact ⟨by simpa using hc.1.1, hc.1.2, rfl⟩
    · cases h
  · cases h

/-- Which entries stay, one by one. -/
theorem mem_rosterKept (roster : List RosterEntry) (k : Marks) (heard : IdSet) (x : RosterEntry) :
    x ∈ rosterKept roster k heard ↔ ∃ y ∈ roster, IdSet.has k.leavers y.id = false ∧ y.cycleEnd heard = some x := by
  simp [rosterKept, and_assoc]

/-- Where an entry is inserted: behind every entry in front of it that has no higher id, before the first higher one. -/
theorem insertEntry_split (e : RosterEntry) (l : List RosterEntry) :
    ∃ low high, l = low ++ high ∧ insertEntry e l = low ++ e :: high ∧ (∀ x ∈ low, x.id ≤ e.id) ∧ ∀ x ∈ high.head?, e.id < x.id := by
  induction l with
  | nil => exact ⟨[], [], rfl, rfl, by simp, by simp⟩
  | cons y l ih =>
    simp only [insertEntry]
    split
    · rename_i h
      exact ⟨[], y :: l, rfl, rfl, by simp, by simpa using h⟩
    · rename_i h
      obtain ⟨low, high, hl, hi, hlow, hhigh⟩ := ih
      exact ⟨y :: low, high, by simp [hl], by simp [hi], by simpa using ⟨not_lt.mp h, hlow⟩, hhigh⟩

/-- The roster after the cycle end is the one that R70's steps give; R119's promotion leaves it. -/
@[simp] theorem Image.cycleEnd_roster (m : Image) (k : Marks) (heard : IdSet) (plan : Option PhasePlan) (ownDigest : Digest)
    (planLength : Nat) : (m.cycleEnd k heard plan ownDigest planLength).roster = m.rosterAfter k heard := by simp [Image.cycleEnd]

/-- R66: a tracked image whose removals leave an entry has a roster after its cycle end. -/
theorem Image.cycleEnd_roster_ne_nil {m : Image} {k : Marks} {heard : IdSet} (h : m.emptiedBy k heard = false)
    (plan : Option PhasePlan) (ownDigest : Digest) (planLength : Nat) :
    (m.cycleEnd k heard plan ownDigest planLength).roster ≠ [] := by
  have hk : rosterKept m.roster k heard ≠ [] := by simpa [Image.emptiedBy] using h
  rw [Image.cycleEnd_roster, Image.rosterAfter]
  split
  · intro he
    have := congrArg List.length he
    simp at this
  · exact hk

/-- The roster law, in Lean's own terms. -/
theorem Image.rosterOk_iff (m : Image) :
    m.rosterOk = true ↔ 1 ≤ m.roster.length ∧ m.roster.length ≤ 16 ∧ (m.roster.map (·.id)).Pairwise (· < ·) ∧
      ∀ e ∈ m.roster, e.missed ≤ 2 := by
  simp [Image.rosterOk, Image.ids, idsAscending_iff, and_assoc]

/-- The roster after a cycle end obeys the law unless it is empty. -/
theorem Image.cycleEnd_rosterOk {m : Image} (h : m.rosterOk = true) (k : Marks) (heard : IdSet) (plan : Option PhasePlan)
    (ownDigest : Digest) (planLength : Nat) (hne : (m.cycleEnd k heard plan ownDigest planLength).roster ≠ []) :
    (m.cycleEnd k heard plan ownDigest planLength).rosterOk = true := by
  rw [Image.rosterOk_iff] at h ⊢
  obtain ⟨_, h2, h3, h4⟩ := h
  have hsub := rosterKept_ids_sublist m.roster k heard
  have hr : (m.cycleEnd k heard plan ownDigest planLength).roster = m.rosterAfter k heard := by simp [Image.cycleEnd]
  rw [hr] at hne ⊢
  refine ⟨List.length_pos_iff.mpr hne, ?_⟩
  unfold Image.rosterAfter
  split
  · rename_i e he
    obtain ⟨ha, hb, hc⟩ := Image.admission_some he
    refine ⟨by simp; omega, insertEntry_ascending _ _ (h3.sublist hsub) (fun hi => ha (hsub.subset hi)), ?_⟩
    intro x hx
    rcases (mem_insertEntry _ _ _).mp hx with rfl | hx
    · omega
    · exact rosterKept_missed h4 k heard x hx
  · have hl := hsub.length_le
    simp only [List.length_map] at hl
    exact ⟨by omega, h3.sublist hsub, rosterKept_missed h4 k heard⟩

/-- The cycle end keeps the laws of an image whose roster does not become empty. -/
theorem Image.cycleEnd_laws {m : Image} (h : m.laws) (k : Marks) (heard : IdSet) (plan : Option PhasePlan) (ownDigest : Digest)
    (planLength : Nat) (hne : (m.cycleEnd k heard plan ownDigest planLength).roster ≠ []) :
    (m.cycleEnd k heard plan ownDigest planLength).laws :=
  ⟨Image.cycleEnd_rosterOk h.1 k heard plan ownDigest planLength hne, Image.cycleEnd_queueLaw h.2 k heard plan ownDigest planLength⟩

/-- A summary of sound structure obeys the laws. -/
theorem Image.lawful_laws {m : Image} (h : m.lawful = true) : m.laws := by
  simp only [Image.lawful, Bool.and_eq_true] at h
  refine ⟨h.1.1.1.1, ?_⟩
  have hq := h.1.1.1.2
  simp only [Image.queueOk, Bool.and_eq_true, decide_eq_true_eq] at hq
  refine ⟨hq.1.1.1, hq.1.1.2, ?_⟩
  intro k hk r hr
  have := hq.2
  rw [hk] at this
  simp only [List.all_eq_true, bne_iff_ne, ne_eq] at this
  exact this r hr

end Sys2Proof.Machine
end

