-- ==== Sys2Proof/Laws/Timing.lean ====
section
/-! SUPPORT. What the CT holds after an opening and after a summary, and what a header does after a summary, in the words of the statements. -/

namespace Sys2Proof.Machine

/-- Counting what a downward closed condition holds of, below `n`, finds where it stops. -/
theorem lt_countP_range_iff {P : Nat → Bool} (down : ∀ i j, i ≤ j → P j = true → P i = true) (n : Nat) :
    (List.range n).countP P ≤ n ∧ ∀ i, i < n → (i < (List.range n).countP P ↔ P i = true) := by
  induction n with
  | zero => simp
  | succ n ih =>
    obtain ⟨bound, char⟩ := ih
    rw [List.range_succ, List.countP_append, List.countP_singleton]
    cases h : P n with
    | false =>
      refine ⟨by simp; omega, fun i hi => ?_⟩
      rcases Nat.lt_succ_iff_lt_or_eq.mp hi with hi | rfl
      · simpa using char i hi
      · simp [h]; omega
    | true =>
      have all : (List.range n).countP P = n := by
        rw [List.countP_eq_length.mpr, List.length_range]
        intro i hi
        exact down i n (List.mem_range.mp hi).le h
      rw [all]
      refine ⟨by simp, fun i hi => ?_⟩
      simp only [if_true, hi, true_iff]
      exact down i n (Nat.lt_succ_iff.mp hi) h

/-- R37, R94: what an adoption leaves in the CT. -/
theorem State.adoptTiming_refixed (s : State) (c : StationConfig) (now : Instant) (closing suppressed : Bool) (sender : StationId)
    (m : Image) : (s.adoptTiming c now closing suppressed sender m).ct.refixed s.ct c m now suppressed := by
  have ct : (s.adoptTiming c now closing suppressed sender m).ct = { s.ct with
      plan := some (planFor c suppressed m)
      pointer := if closing then m.roster.length else s.senderPosition m sender + 1
      nextPhase := phasesPassed c s.ct.mark m.roster.length now
      summarySeen := true } := by
    simp only [State.adoptTiming, State.senderPositionDrawn]
    split <;> rfl
  rw [ct]
  refine ⟨rfl, rfl, rfl, rfl, rfl, ?_⟩
  cases hk : s.ct.mark with
  | none => simp [phasesPassed]
  | some k =>
    have spec := lt_countP_range_iff (P := fun p => decide (phaseInstant c k.instant m.roster.length p < now))
      (by
        intro i j hij hj
        exact decide_eq_true (lt_of_le_of_lt (Nat.add_le_add_left (Nat.div_le_div_right (Nat.mul_le_mul_right _ hij)) _)
          (of_decide_eq_true hj)))
      m.roster.length
    refine ⟨spec.1, by simp, fun k' p hk' hp => ?_⟩
    cases hk'
    exact (spec.2 p hp).trans ⟨of_decide_eq_true, decide_eq_true⟩

/-- R38: what new timing leaves in the CT, before the sender of the frame is heard. -/
theorem State.takeUpTiming_takenUp (s : State) (c : StationConfig) (closing suppressed : Bool) {sender : StationId} {m : Image}
    {q : Nat} (hq : m.position sender = some q) :
    ((s.takeUpTiming c closing suppressed sender m).hear sender).ct.takenUp c m sender q suppressed := by
  refine ⟨?_, ?_, ?_, ?_, ?_, ?_, ?_⟩ <;>
    simp [State.takeUpTiming, State.senderPositionDrawn, State.senderPosition, State.hear, hq, planFor, CycleTimer.plannedBy]

/-- R21, R35, R36: what an opening leaves in the CT. -/
theorem State.openCycle_opensWith {s : State} {m : Image} (hm : s.iu.image = some m) (c : StationConfig) (now : Instant) (byFrame : Bool) :
    (s.openCycle c now byFrame).ct.opensWith c m s.sc.departing now (!byFrame) := by
  have ct : (s.openCycle c now byFrame).ct = { s.ct.opened c s.sc.departing now byFrame m with
      silence := if s.ti.receiving.isSome then none else some (now + silenceOf c) } := by
    simp only [State.openCycle, hm, State.slotBegins]
    (repeat' split) <;> simp_all [CycleTimer.opened]
  rw [ct]
  exact ⟨rfl, rfl, rfl, rfl, rfl, rfl, rfl, rfl, rfl⟩

/-- What a header that disagrees adds to the trunk interface is what `countInconsistent` adds (R51, R55). -/
theorem State.counts_of_countInconsistent (u : State) (b : Beat) (m : Image) (p : Nat) :
    { (if b.disagrees m p then u.countInconsistent else u).ti with receiving := none } = u.ti.counts b m p := by
  by_cases h : b.disagrees m p <;> simp [TrunkInterface.counts, State.countInconsistent, saturate255, h]

/-- R51: the counts stay within 255 at a header, whether it disagrees or not. -/
theorem TrunkInterface.counts_inconsistent_le (u : TrunkInterface) (b : Beat) (m : Image) (p : Nat) (h : u.inconsistent ≤ 255) :
    (u.counts b m p).inconsistent ≤ 255 := by
  simp only [TrunkInterface.counts]
  split <;> [split; skip] <;> omega

/-- R55 after a summary that was confirmed or taken: the items of a header that agrees, and nothing but the count and the doubt of another. -/
theorem State.listedBeat_afterHeader (u : State) (c : StationConfig) (m : Image) (p : Nat) (b : Beat) (outcome : SummaryOutcome)
    (h : outcome = .confirmed ∨ outcome = .taken) :
    u.listedBeat c m p outcome b =
      (if b.disagrees m p then u.countInconsistent else u).afterHeader c.id b m p := by
  have taken : (outcome == .confirmed || outcome == .taken) = true := by rcases h with rfl | rfl <;> rfl
  have digest : (outcome == .digestDiffers) = false := by rcases h with rfl | rfl <;> rfl
  unfold State.listedBeat State.afterHeader Beat.disagrees headerDoubt
  rw [taken, digest]
  by_cases he : b.epoch = m.epoch <;> by_cases hc : b.cycle = m.cycle <;> by_cases hp : b.position.val = p <;>
    simp [he, hc, hp, State.goDoubtful, State.countInconsistent] <;> rfl

end Sys2Proof.Machine
end

