-- ==== Sys2Proof/Tests/Slice0.lean ====
section
/-! SUPPORT. The writer's own tests: ill-formed terms refused, values the manual works out, and for every statement with hypotheses a state that meets them. -/

namespace Sys2Proof.Tests

open Sys2Proof Sys2Proof.Machine

/-! ### Helpers -/

def testConfig : StationConfig :=
  { id := 2, joinMode := .auto, autorun := true, rate := 10, period := 10000, silence := 50,
    plan := [{ channel := 0, monitored := true }, { channel := 1, monitored := false }],
    group := [{ channel := 3, monitored := true }], externalTotal := 2, rangeTotal := 3,
    offsets := #v[10, -512, 511, 0, 0, 0, 0, 0], rangeLow := 100, rangeHigh := 4000, autoRequest := true,
    windows := #v[{ enabled := true, takesRegular := true, takesPriority := false, base := 8, limit := 15 },
      { enabled := true, takesRegular := false, takesPriority := true, base := 0, limit := 127 },
      { enabled := true, takesRegular := true, takesPriority := true, base := 100, limit := 90 },
      { enabled := false, takesRegular := true, takesPriority := true, base := 0, limit := 127 }],
    closeAgeLimit := 2, digest := 0x11223344 }

def entry (i : StationId) : RosterEntry := { id := i, missed := 0, admitted := false }

def testImage : Image :=
  { epoch := 5, cycle := 9, digest := 0x11223344, roster := [entry 1, entry 2, entry 5], run := .running, gather := none,
    cursor := 1, queue := [], capture := none }

def inState (state : StationState) : State :=
  { State.reset with
    sc := { StationController.afterReset with state }, cfg := some testConfig,
    rc := { cause := .pin, hold := .none, resetnLow := false }, ld := { Loader.afterReset with phase := .done, count := 72 } }

def slots (pointer : Nat) : CycleTimer :=
  { CycleTimer.stopped with
    state := .slots, mark := some { instant := 1000, provisional := true }, nextOpening := some (1000 + periodOf testConfig),
    pointer, silence := some 5000, plan := some (planFor testConfig false testImage) }

def member (pointer : Nat) : State :=
  { inState .member with
    iu := { image := some testImage, copy := some testImage, certainty := some .synced, marks := .empty }, ct := slots pointer }

def listener (pointer : Nat) : State :=
  { inState .listen with iu := { ImageUnit.empty with image := some testImage }, ct := slots pointer }

def hearing (s : State) : State := s.setTi { s.ti with receiving := some false }

def record : Record :=
  { kind := .regular 1, channel := 1, cycle := 9, value := 77, low := false, high := false, clamped := false, gap := false }

def delivered : Delivered := { record, origin := 1, dropped := false }

def beat (sender : StationId) (position : Fin 16) (summary : Option Image) : Beat :=
  { sender, doubt := false, epoch := 5, cycle := 9, position, items := [], records := [record], summary }

/-- A station of testConfig inside a frame in its slots, its transmitter idle and no LEAVE deferred. -/
def hears (s : State) (state : StationState) : Bool :=
  decide (s.cfg = some testConfig) && decide (s.sc.state = state) && !s.sc.deferredLeave && decide (s.ct.state = .slots) &&
    decide (s.ti.receiving = some false) && decide (s.ti.tx = .idle)

def beatLine (b : Beat) : List Bool := lineOf (withCrc (beatContent b))

def ownBeatFrame : OwnFrame := .beat false 5 9 1 [.leave] [.leave] none

/-- A state whose H0 is FILLING with `n` records at an age. -/
def fillingWith (n age : Nat) : DeliveryUnit := { DeliveryUnit.afterReset with h0 := .filling (List.replicate n delivered) age }

/-- H0 CLOSED with two records, H1 FILLING. -/
def oneClosed : DeliveryUnit :=
  { DeliveryUnit.afterReset with
    h0 := .closed [delivered, delivered] 6 .command, h1 := .filling [] 0, counter := 7, first := some .h0 }

/-- Both halves CLOSED, H1 first. -/
def bothClosed : DeliveryUnit :=
  { DeliveryUnit.afterReset with
    h0 := .closed [delivered] 6 .age, h1 := .closed [delivered] 5 .full, counter := 7, first := some .h1 }

/-- The 68 bytes of a configuration image before its CRC. -/
def imageBody (version mode : Byte) (windowBase : Byte) : List Byte :=
  [version, 2, mode, 1, 10, 0x27, 0x10, 50, 2] ++ [0x80, 0x01] ++ List.replicate 14 0 ++ [1, 0x83, 0, 0, 0, 2, 3] ++
    [0x00, 0x0A, 0xFE, 0x00, 0x01, 0xFF] ++ List.replicate 10 0 ++ [0x00, 0x64, 0x0F, 0xA0, 1] ++
    [0x81, 8, 15, 0x82, windowBase, 127, 0x83, 100, 90, 0x03, 0, 127] ++ [2, 0x40, 0x02]

/-- A configuration image: the CRC-32 follows, least significant byte first. -/
def image (version mode windowBase : Byte) : List Byte :=
  let body := imageBody version mode windowBase
  body ++ (bytesOf32 (crc32 body)).reverse

def loading (phase : LoadPhase) (bytes : List Byte) (count : Nat) : State :=
  { State.reset with
    rc := { cause := .pin, hold := .none, resetnLow := false },
    ld := { Loader.afterReset with phase, bytes, count, timer := some 9 } }

/-! ### Ill-formed terms are refused (WellFormed) -/

theorem test_unknown_code_of_a_command_is_ill_formed :
    (Instr.unknown 0x01).wellFormed = false ∧ (Instr.unknown 0x0C).wellFormed = false ∧
      (Instr.unknown 0x00).wellFormed = true ∧ (Instr.unknown 0x0D).wellFormed = true := by decide

theorem test_frame_without_start_mark_is_ill_formed :
    (Instr.frameEnd 0 [true, false]).wellFormed = false ∧ (Instr.frameEnd 0 []).wellFormed = false ∧
      (Instr.frameEnd 0 [false]).wellFormed = true := by decide

theorem test_table_gives_no_bits : decodeTableWord 8 1 = none ∧ (member 0).withFetchWord 16 0x1234 = member 0 := by decide +kernel

/-! ### Bytes of the collector port (12.4) -/

theorem test_port_commands_decode :
    decodePort 3 [0x01] = some .status ∧ decodePort 3 [0x02] = some .events ∧ decodePort 3 [0x03] = some .roster ∧
      decodePort 3 [0x04, 0x3F] = some (.read 63) ∧ decodePort 3 [0x05, 0x12, 0x34] = some (.release 0x1234) ∧
      decodePort 3 [0x06] = some .close ∧ decodePort 3 [0x07, 0x08] = some (.capture 8) ∧ decodePort 3 [0x08] = some .halt ∧
      decodePort 3 [0x09] = some .resumeCommand ∧ decodePort 3 [0x0A] = some (.join 3) ∧ decodePort 3 [0x0B] = some .leave ∧
      decodePort 3 [0x0C] = some .reset ∧ decodePort 3 [0x0D] = some (.unknown 0x0D) ∧ decodePort 3 [0x05, 0x12] = none := by
  decide

/-! ### CRCs and frames -/

/-- "123456789" in ASCII. -/
def digits : List Byte := [0x31, 0x32, 0x33, 0x34, 0x35, 0x36, 0x37, 0x38, 0x39]

/-- The check values that the CRC's usual descriptions give for the polynomials of R41 and R181. -/
theorem test_crc_check_values : crc16 digits = 0x29B1 ∧ crc32 digits = 0xCBF43926 := by decide +kernel

/-- A JOIN of station 2, byte by byte from 12.1: sender 2, kind JOIN (10), flags 0, then the digest. -/
theorem test_join_bytes : joinContent 2 0x11223344 = [0x28, 0x11, 0x22, 0x33, 0x44] := by decide

/-- A BEAT with one PRIORITY_REQ and one record, byte by byte from 12.1. -/
theorem test_beat_bytes :
    beatContent { beat 5 2 none with items := [.priorityReq .command 4 0x0C] } =
      [0x54, 0, 5, 0, 9, 0x21, 0x01, 4, 0xC4, 0x0C, 0x10, 0, 9, 0x10, 77] := by decide

/-- The start mark, eight bits, the complement of the last (R39, R40). -/
theorem test_line_coding :
    lineOf [0xA0] = [false, true, false, true, false, false, false, false, false, true] := by decide

theorem test_frames_read_back :
    receiveLine (beatLine (beat 1 0 (some testImage))) = .whole (.beat (beat 1 0 (some testImage)) true) true ∧
      receiveLine (lineOf (withCrc (joinContent 2 7))) = .whole (.join 2 7) true ∧
      receiveLine (List.replicate 10 false) = .cutShort := by decide +kernel

/-! ### Worked values -/

/-- R166: the offsets from 65534 are 0, 1, -1 and 3. -/
theorem test_half_header_cycles :
    lowestCycle 65534 [65534, 65535, 65533, 1] = 65533 ∧ highestCycle 65534 [65534, 65535, 65533, 1] = 1 := by decide

/-- R102, R104: 4095 with offset 0 is not clamped; a sum past the range is. -/
theorem test_correction :
    corrected 4095 0 = (4095, false) ∧ corrected 4090 10 = (4095, true) ∧ corrected 500 (-512) = (0, true) ∧
      rangeFlags testConfig 100 = (false, false) ∧ rangeFlags testConfig 99 = (true, false) ∧
      rangeFlags testConfig 4001 = (false, true) := by decide

/-- R88: cursor 1 and position 1 of a list of two entries give entry 0. -/
theorem test_assigned_entry : (planFor testConfig false testImage).assignedEntry 2 = some 0 := by decide

/-- A good image: the fields and the digest over R184's bytes; a window out of range fails the load. -/
theorem test_good_image :
    (match checkImage (image 1 0 0) with
      | .ok c => decide (c = { testConfig with digest := crc32 (digestBytes testConfig) })
      | .error _ => false) = true ∧
      (match checkImage (image 1 0 128) with
        | .ok _ => false
        | .error reason => decide (reason = .imageRange)) = true := by decide +kernel

/-- After the response's end, and after the code of UNKNOWN, the fill byte (R191); nothing while RESETn is low. -/
theorem test_bytes_on_miso :
    (List.range 3).map ((inState .idle).respond .unknown []).misoByte = [some 0x09, some 0xFF, some 0xFF] ∧
      (List.range 4).map ((inState .idle).respond .done [1, 2]).misoByte = [some 0, some 1, some 2, some 0xFF] ∧
      (inState .idle).misoByte 0 = none ∧ (State.reset.resetBy .pin .resetnLow true).misoByte 0 = none := by decide

/-- FFh where an item of 12.4 is none: plan list length, last refused serial, close age. -/
theorem test_absent_items_read_as_fill :
    (State.reset.statusWord 0)[18]? = some 0xFF ∧ (State.reset.statusWord 0)[30]? = some 0xFF ∧
      (((inState .idle).setDu bothClosed).statusWord 0)[45]? = some 0xFF ∧ ((inState .idle).statusWord 0)[45]? = some 0 ∧
      ((inState .idle).statusWord 0)[18]? = some 2 := ⟨rfl, rfl, rfl, rfl, rfl⟩

/-- A start index past every record count: NONE_CLOSED while no half is CLOSED (log 37), BAD_ARGUMENT otherwise. -/
theorem test_read_start_past_every_count :
    ((inState .idle).readHalf 64).cp.response = some [0x08] ∧
      (((inState .idle).setDu oneClosed).readHalf 64).cp.response.map (·.take 1) = some [0x05] := ⟨rfl, rfl⟩

/-- Start, 1010000b with write, 00h, 00h, repeated start, 1010000b with read (R179). -/
theorem test_address_bytes_on_the_bus :
    (List.range 4).flatMap (fun n => { (loading .addressing [] 0).ld with addressed := n }.sends) =
      [.start, .send 0xA0, .send 0x00, .send 0x00, .repeatedStart, .send 0xA1] := by decide

theorem test_status_word_has_54_bytes : ((member 0).statusWord 0).length = 54 := by rfl

/-! ### Every statement's hypotheses are met -/

theorem witness_StepRunsFrontCommand : ((member 0).setPending [.status, .close]).pending = .status :: [.close] := rfl

theorem witness_EveryStepAnswersANextState :
    ((member 0).pending = [] ∧ (member 0).ti.tx ≠ .arbitrating) ∧
      (((member 0).setTi { (member 0).ti with tx := .arbitrating }).pending = [] ∧
        ((member 0).setTi { (member 0).ti with tx := .arbitrating }).ti.tx = .arbitrating) := by decide

theorem witness_ResetSourcesGiveResetValues :
    ((member 0).setCp { (member 0).cp with resetAtRelease := true }).cp.resetAtRelease = true := rfl

theorem witness_LoadingStartsAndTakesItsSteps :
    ((State.reset.rc.hold = .powerOnDelay ∧ State.reset.rc.resetnLow = false) ∧
        (State.reset.resetBy .pin .resetnLow true).rc.hold = .resetnLow) ∧
      ((loading .starting [] 0).ld.phase = .starting ∧ (loading .starting [] 0).ld.timer.isSome) ∧
      ((loading .addressing [] 0).ld.phase = .addressing ∧ (loading .addressing [] 0).ld.timer.isSome ∧
        (loading .addressing [] 0).ld.addressed < 3) ∧
      (((loading .addressing [] 0).setLd { (loading .addressing [] 0).ld with addressed := 3 }).ld.addressed = 3) ∧
      ((loading .reading [] 70).ld.phase = .reading ∧ (loading .reading [] 70).ld.timer.isSome ∧
        (loading .reading [] 70).ld.count < 71) ∧
      (loading .reading [] 71).ld.count = 71 ∧ Loader.afterReset.timer = none := by decide

theorem witness_LoadFailsWithItsReason :
    ((loading .starting [] 0).sc.state = .loading ∧ (loading .starting [] 0).ld.phase = .starting ∧
        (loading .starting [] 0).ld.timer.isSome) ∧
      (loading .addressing [] 0).ld.phase = .addressing ∧
      (crc32 ((loading .checking (List.replicate 72 0) 72).ld.bytes.take 68) ≠
        imageCrc (loading .checking (List.replicate 72 0) 72).ld.bytes) ∧
      (crc32 ((image 2 0 0).take 68) = imageCrc (image 2 0 0) ∧ imageByteAt (image 2 0 0) 0 ≠ 1) ∧
      (crc32 ((image 1 3 0).take 68) = imageCrc (image 1 3 0) ∧ imageByteAt (image 1 3 0) 0 = 1 ∧ fieldsOf (image 1 3 0) = none) ∧
      (crc32 ((image 1 0 128).take 68) = imageCrc (image 1 0 128) ∧ imageByteAt (image 1 0 128) 0 = 1 ∧
        (fieldsOf (image 1 0 128)).map configInRange = some false) := by decide +kernel

theorem witness_GoodLoadHandsFieldsOver :
    (loading .checking (image 1 0 0) 72).ld.phase = .checking ∧
      [(0 : Byte), 1, 2].map (fun mode => match checkImage (image 1 mode 0) with
        | .ok c => some c.joinMode
        | .error _ => none) = [some .auto, some .manual, some .observe] := by decide +kernel

def request (i : StationId) : Request := { requester := i, cause := .command, total := 1, serial := 4 }

def capture : Capture := { request := { requester := 5, cause := .external, total := 8, serial := 3 }, next := 7 }

/-- Each item of STATUS and ROSTER that may be none, with a value and without. -/
theorem witness_StatusShowsStateAndChangesNothing_and_RosterShowsImageHeld :
    (State.reset.portFree ∧ State.reset.cfg = none ∧ State.reset.iu.image = none ∧ State.reset.captureHeld = none ∧
        State.reset.cp.lastRefusal = none ∧ State.reset.du.filling = some .h0) ∧
      ((member 0).portFree ∧ (member 0).cfg = some testConfig ∧ (member 0).iu.image = some testImage ∧
        (member 0).sc.state = .member ∧ (planFor testConfig false testImage).assignedEntry testConfig.plan.length = some 0 ∧
        testImage.position testConfig.id = some 1) ∧
      ((listener 0).sc.state ≠ .member ∧ (planFor testConfig true testImage).assignedEntry testConfig.plan.length = none) ∧
      (let asking := (member 0).setIu { (member 0).iu with
         image := some { testImage with
           queue := [request 1, request 2], capture := some capture, gather := some { required := 0x26, acked := 0, elapsed := 0 } } }
       asking.ownRequestItem.2 = some 1 ∧ asking.captureHeld = some capture ∧ asking.gatherHeld.isSome) ∧
      ((member 0).refuse .full 7).cp.lastRefusal = some (.full, 7) ∧ bothClosed.filling = none := by
  refine ⟨⟨⟨rfl, rfl⟩, by decide⟩, ⟨⟨rfl, rfl⟩, by decide⟩, by decide, by decide, by decide, by decide⟩

theorem witness_portFree : ∀ state, (inState state).portFree := fun _ => ⟨rfl, rfl⟩

theorem witness_ReadAnswersFirstClosedHalf :
    (inState .idle).du.first = none ∧
      ((member 0).setDu oneClosed).portFree ∧ oneClosed.first = some .h0 ∧
      oneClosed.get .h0 = .closed [delivered, delivered] 6 .command ∧ [delivered, delivered].length ≤ (2 : Byte).toNat ∧
      (1 : Byte).toNat < [delivered, delivered].length ∧ [delivered, delivered][1]? = some delivered :=
  ⟨rfl, ⟨rfl, rfl⟩, rfl, rfl, by decide, by decide, rfl⟩

theorem witness_ReleaseFreesFirstClosedHalf :
    (inState .idle).du.wf = true ∧ (∀ h r n cause, (inState .idle).du.get h ≠ .closed r n cause) ∧
      (oneClosed.wf = true ∧ (oneClosed.get .h1).isFilling = true) ∧
      (bothClosed.wf = true ∧ bothClosed.first = some .h1 ∧ bothClosed.get .h1 = .closed [delivered] 5 .full ∧
        (bothClosed.get .h0).isClosed = true) := by
  refine ⟨rfl, ?_, by decide, by decide⟩
  intro h r n cause; cases h <;> exact fun hc => by cases hc

theorem witness_CloseClosesFillingHalf :
    ((fillingWith 1 0).wf = true ∧ (fillingWith 1 0).get .h0 = .filling [delivered] 0) ∧
      ((inState .idle).du.wf = true ∧ (inState .idle).du.get .h0 = .filling [] 0) ∧
      (∀ h r a, bothClosed.get h ≠ .filling r a) := by
  refine ⟨by decide, by decide, ?_⟩
  intro h r a; cases h <;> exact fun hc => by cases hc

theorem witness_CaptureIsAnsweredInOrder :
    (inState .listen).sc.state ≠ .member ∧ ((member 0).sc.state = .member ∧ (member 0).sc.departing = false) ∧
      ((9 : Byte) ≠ 0 ∧ 8 < (9 : Byte).toNat) ∧ ((1 : Byte) ≠ 0 ∧ (8 : Byte) ≠ 0 ∧ (8 : Byte).toNat ≤ 8) ∧
      (member 0).cb.request = none ∧
      ((member 0).postRequest .external 2).cb.request.isSome := by decide

theorem witness_HaltAndResumeAreAnsweredInOrder :
    (inState .joining).sc.state ≠ .member ∧ ((member 0).cb.haltReq = false ∧ (member 0).cb.resumeReq = false) ∧
      ((member 0).setCb { (member 0).cb with haltReq := true }).cb.haltReq = true ∧
      ((member 0).setCb { (member 0).cb with resumeReq := true }).cb.resumeReq = true := by decide

theorem witness_JoinCommandByState :
    ((inState .idle).sc.state = .idle ∧ (inState .idle).cfg = some testConfig) ∧
      ((listener 0).sc.state = .listen ∧ (listener 0).sc.joiningWanted = false) ∧
      ((listener 0).setSc { (listener 0).sc with joiningWanted := true }).sc.joiningWanted = true := by decide

/-- LISTEN with the own JOIN on the line, and LISTEN with the transmitter idle. -/
theorem witness_LeaveCommandByState :
    ((listener 0).setTi { (listener 0).ti with tx := .aborting, frame := some (.join 7) }).sendsJoin ∧
      ¬ (listener 0).sendsJoin ∧ (listener 0).ti.tx = .idle ∧
      ((member 0).setSc { (member 0).sc with departing := true }).sc.departing = true :=
  ⟨⟨⟨7, rfl⟩, .inr (.inr rfl)⟩, fun h => (h.1.elim fun _ hd => by cases hd), rfl, rfl⟩

theorem witness_SelectTakesOneCommand :
    (inState .fault).cp.resetAtRelease = false ∧ ((inState .fault).respond .done []).cp.response.isSome ∧
      (State.reset.resetBy .pin .resetnLow true).rc.resetnLow = true ∧ encodePort (.unknown 0xFF) = some [0xFF] := by decide

theorem witness_CloseOfHalfTakesItsActions :
    ((fillingWith 64 0).get .h0 = .filling (List.replicate 64 delivered) 0 ∧ (fillingWith 64 0).get .h1 = .free) ∧
      (oneClosed.get .h1 = .filling [] 0 ∧ (oneClosed.get .h0).isClosed = true) := by decide

theorem witness_FillingHalfTakesRecordsAndAges :
    (((fillingWith 62 0).wf = true ∧ (List.replicate 62 delivered).length < 63) ∧
        ((fillingWith 63 0).wf = true ∧ (List.replicate 63 delivered).length = 63) ∧
        (bothClosed.wf = true ∧ (bothClosed.get .h0).isFilling = false ∧ (bothClosed.get .h1).isFilling = false)) ∧
      ((fillingWith 1 0).wf = true ∧ testConfig.closeAgeLimit ≠ 0 ∧ 0 + 1 ≠ testConfig.closeAgeLimit) ∧
      ((fillingWith 1 1).wf = true ∧ 1 + 1 = testConfig.closeAgeLimit) ∧
      ((fillingWith 1 254).wf = true ∧ 254 + 1 < 256 ∧ { testConfig with closeAgeLimit := 0 }.closeAgeLimit = 0) := by decide

theorem witness_OffsetIsAddedAndClamped :
    (((0 : Sample).toNat : Int) + testConfig.offsets.get 1 < 0) ∧
      (0 ≤ ((512 : Sample).toNat : Int) + testConfig.offsets.get 1) ∧
      (((4085 : Sample).toNat : Int) + testConfig.offsets.get 0 ≤ 4095) ∧
      (4095 < ((4086 : Sample).toNat : Int) + testConfig.offsets.get 0) := by decide

def conversion (channel : Channel) (monitored discard : Bool) : Conversion :=
  { channel, sample := some 20, kind := .regular 0, cycle := 9, monitored, discard }

theorem witness_RangeMonitorJudgesResults :
    ((recordOf testConfig (conversion 0 true false) 20).low = true ∧ (recordOf testConfig (conversion 0 true false) 20).high = false ∧
        channelOut (member 0).rm 0 = false ∧ testConfig.autoRequest = true ∧
        (member 0).sc.departing = false ∧ (member 0).cb.request = none) ∧
      (recordOf testConfig (conversion 0 true false) 90).low = false ∧
      channelOut (setChannel 0 0 true) 0 = true := by decide

def converting (discard : Bool) : State :=
  (member 0).setSq { inFlight := [conversion 0 true discard, conversion 1 false discard], completion := some 70 }

theorem witness_ConversionCompletes :
    ((converting false).cfg = some testConfig ∧ (converting false).sq.completion = some 70 ∧
        (converting false).rt.occupancy < 24) ∧
      24 ≤ ((converting false).setRt { (converting false).rt with queue := List.replicate 24 record }).rt.occupancy ∧
      (conversion 0 true true).discard = true ∧ (conversion 1 false false).sample = some 20 := by decide

/-- A MEMBER at position 1 takes phases 0 and 1; plans of every type. -/
theorem witness_PhaseStartsTheConversionsOfItsPlan :
    (let p := planFor testConfig false testImage
     let s := (member 0).setCt { (slots 0) with nextPhase := 1 }
     (s.cfg = some testConfig ∧ s.sc.state = .member ∧ s.ct.plan = some p ∧ s.ct.mark.isSome ∧ s.ct.nextPhase < p.members) ∧
       (p.called = some s.ct.nextPhase ∧ s.ct.phaseTaken = false ∧ s.sq.inFlight = [] ∧ conversionsCalled testConfig p ≠ []) ∧
       p.called ≠ some (member 0).ct.nextPhase ∧ (converting false).sq.inFlight ≠ []) ∧
      (planFor testConfig true testImage).suppressed = true ∧
      ((planFor testConfig false testImage).type = .regular ∧ (planFor testConfig false testImage).position = some 1 ∧
        1 ≤ testConfig.plan.length ∧ testConfig.plan.length ≤ 16) ∧
      (planFor testConfig false { testImage with run := .halted }).type = .halted ∧
      ((planFor testConfig false { testImage with capture := some capture }).type = .priority ∧
        testConfig.group.length ≤ 4 ∧ capture.next < 8) := by decide

theorem witness_TrigPostsAndHoldoffStops :
    ((member 0).cfg = some testConfig ∧ (member 0).sc.state = .member ∧ (member 0).sc.departing = false ∧
      (member 0).cb.request = none) ∧ (inState .listen).sc.state ≠ .member := by decide

def founder (wanted : Bool) : State :=
  { inState .listen with
    sc := { StationController.afterReset with state := .listen, joiningWanted := wanted, founding := some 90 },
    ct := { CycleTimer.stopped with state := .untimed } }

theorem witness_FoundingTimerFoundsOrRestarts :
    ((founder true).cfg = some testConfig ∧ (founder true).sc.state = .listen ∧ (founder true).sc.founding = some 90 ∧
        (founder true).sc.joiningWanted = true ∧ (founder true).sc.holdoff = none ∧ (founder true).ti.tx = .idle) ∧
      (founder false).sc.joiningWanted = false := by decide

def inInterval : State := (member 3).setCt { slots 3 with state := .interval, silence := none, nextOpening := some 600 }

theorem witness_CycleOpensAtItsInstant :
    (inInterval.cfg = some testConfig ∧ inInterval.iu.image = some testImage ∧ inInterval.ct.state = .interval ∧
      inInterval.ct.nextOpening = some 600) ∧ inInterval.ti.receiving = none ∧
      { testConfig with id := 1 }.id = 1 ∧ testImage.position 1 = some 0 ∧
      { testImage with capture := some capture }.cycleType = .priority ∧ { testImage with run := .halted }.cycleType = .halted ∧
      { testImage with gather := some { required := 0, acked := 0, elapsed := 0 } }.cycleType = .drain ∧
      testImage.cycleType = .regular := by decide

/-- A station that is the first member of testImage. -/
def asFirst (s : State) : State := { s with cfg := some { testConfig with id := 1 } }

/-- The own position is 0 at an opening, and at the frame start that opens a cycle early. -/
theorem witness_assembly_at_an_opening :
    (asFirst inInterval).cfg = some { testConfig with id := 1 } ∧ (asFirst inInterval).sc.state = .member ∧
      (asFirst inInterval).iu.image = some testImage ∧ testImage.position 1 = some 0 ∧ (asFirst inInterval).ti.tx = .idle ∧
      (asFirst inInterval).receiverOn = true ∧ (asFirst inInterval).ti.receiving = none ∧
      (asFirst inInterval).ct.state = .interval := by decide

/-- Slot 0 passes before the own slot 1; slot 1 before a slot that is not the own one; slot 2, the last, into the join window, at a MEMBER and at a JOINING station. -/
theorem witness_SilentSlotPasses_and_OwnSlotAssemblesTheBeat :
    ((member 0).cfg = some testConfig ∧ (member 0).sc.state = .member ∧ (member 0).iu.image = some testImage ∧
        (member 0).ct.state = .slots ∧ (member 0).ct.silence = some 5000 ∧ (member 0).ct.pointer + 1 < (member 0).ct.members ∧
        (member 0).ct.position = some ((member 0).ct.pointer + 1) ∧ (member 0).ti.receiving = none ∧ (member 0).ti.tx = .idle) ∧
      ((member 1).ct.pointer + 1 < (member 1).ct.members ∧ (member 1).ct.position ≠ some ((member 1).ct.pointer + 1)) ∧
      (listener 0).sc.state ≠ .member ∧ (member 2).ct.members ≤ (member 2).ct.pointer + 1 ∧
      ((listener 2).setSc { (listener 2).sc with state := .joining }).sc.state ≠ .listen := by decide

/-- A command that arms a BEAT at an idle transmitter. -/
theorem witness_OwnSlotAssemblesTheBeat_at_every_assembly :
    ∃ t, exec .slotPasses (member 0) = .next t ∧ (member 0).ti.tx = .idle ∧ (member 0).sc.deferredLeave = false ∧
      t.ti.tx = .armed ∧
      t.ti.frame = some (.beat false 5 9 1 [] [] (some testImage)) := ⟨_, rfl, by decide⟩

/-- R79, log 32: a called phase holds LEAVE and HALT_ACK back while it is to come, and no longer once it was passed or the mark is gone. -/
theorem test_phase_to_come :
    (slots 0).phaseToCome = true ∧ { slots 0 with nextPhase := 2 }.phaseToCome = false ∧
      { slots 0 with mark := none }.phaseToCome = false ∧ { slots 0 with phaseTaken := true }.phaseToCome = false := by decide

/-- A LISTEN station at the last slot of a roster without it, wanting to join. -/
def joiner (m : Image) (seen : Bool) : State :=
  { listener 2 with
    sc := { StationController.afterReset with state := .listen, joiningWanted := true },
    iu := { ImageUnit.empty with image := some m }, ct := { slots 2 with summarySeen := seen } }

def othersImage : Image := { testImage with roster := [entry 1, entry 4, entry 5] }

theorem witness_JoinIsJudgedAtWindowOpening :
    ((joiner othersImage true).cfg = some testConfig ∧ (joiner othersImage true).sc.state = .listen ∧
        (joiner othersImage true).ct.state = .slots ∧ (joiner othersImage true).ct.silence = some 5000 ∧
        (joiner othersImage true).ct.members ≤ (joiner othersImage true).ct.pointer + 1) ∧
      (listener 2).sc.joiningWanted = false ∧ (joiner othersImage true).sc.holdoff = none ∧
      (joiner othersImage false).ct.summarySeen = false ∧ testImage.lists testConfig.id = true ∧
      (othersImage.lists testConfig.id = false ∧ othersImage.roster.length < 16 ∧ othersImage.digest = testConfig.digest) ∧
      { othersImage with digest := 1 }.digest ≠ testConfig.digest ∧
      16 ≤ { othersImage with roster := List.replicate 16 (entry 1) }.roster.length := by decide

/-- The own id heard and that of station 5, at a certainty. -/
def closing (certainty : Certainty) (heard : IdSet) : State :=
  { member 3 with
    iu := { image := some testImage, copy := some testImage, certainty := some certainty, marks := .empty },
    ct := { slots 3 with state := .window, silence := none, window := some 6000, heard } }

theorem witness_WindowExpiryIsTheCycleEnd :
    ((closing .synced 0x24).cfg = some testConfig ∧ (closing .synced 0x24).sc.state = .member ∧
        (closing .synced 0x24).iu.image = some testImage ∧ (closing .synced 0x24).ct.state = .window ∧
        (closing .synced 0x24).ct.window = some 6000 ∧
        (testImage.cycleEnd .empty 0x24 (closing .synced 0x24).ct.plan testConfig.digest testConfig.plan.length).lists
          testConfig.id = true) ∧
      ((closing .doubtful 0x24).iu.certainty = some .doubtful ∧ (closing .doubtful 0x24).ct.summarySeen = false ∧
        ∀ i ∈ testImage.ids, IdSet.has 0x24 i = true → testConfig.id ≤ i) ∧
      (∃ i ∈ testImage.ids, IdSet.has 0x26 i = true ∧ i < testConfig.id) ∧
      6000 < 1000 + testConfig.period * unitsPerMicrosecond := by decide

/-- The cycle overran, and the own position in the next one is 0. -/
theorem witness_WindowExpiryIsTheCycleEnd_at_an_overrun :
    let s := asFirst { closing .synced 0xFFFF with ct := { (closing .synced 0xFFFF).ct with window := some (2 * periodOf testConfig) } }
    let m' := testImage.cycleEnd s.iu.marks s.ct.heard s.ct.plan testConfig.digest 2
    m'.lists 1 = true ∧ m'.position 1 = some 0 ∧ s.ti.tx = .idle ∧ s.ct.state = .window ∧
      1000 + periodOf testConfig ≤ 2 * periodOf testConfig := by decide

/-- At the end of its window, with an image, marks and a heard set. -/
def ending (m : Image) (marks : Marks) (heard : IdSet) : State :=
  (closing .synced heard).setIu { image := some m, copy := some testImage, certainty := some .synced, marks }

def missedTwice : Image := { testImage with roster := [entry 1, { entry 2 with missed := 2 }, entry 5] }

def removes (s : State) (m : Image) : Bool :=
  decide (s.cfg = some testConfig) && decide (s.sc.state = .member) && decide (s.iu.image = some m) &&
    decide (s.ct.state = .window) && s.ct.window.isSome && decide (s.ti.tx ≠ .armed) &&
    !(m.cycleEnd s.iu.marks s.ct.heard s.ct.plan testConfig.digest testConfig.plan.length).lists testConfig.id

theorem witness_RemovalAtTheCycleEndDeparts :
    (removes (ending missedTwice .empty 0x22) missedTwice = true ∧
        IdSet.has (ending missedTwice .empty 0x22).iu.marks.leavers testConfig.id = false) ∧
      (removes (ending testImage { Marks.empty with leavers := 0x04 } 0x26) testImage = true ∧
        IdSet.has (ending testImage { Marks.empty with leavers := 0x04 } 0x26).iu.marks.leavers testConfig.id = true) := by
  decide

/-- At the end of its window with a tracked image. -/
def tracking (state : StationState) (m : Image) (marks : Marks) (heard : IdSet) : State :=
  let s := ending m marks heard
  (s.setSc { s.sc with state }).setIu { ImageUnit.empty with image := some m, marks }

def soleMember : Image := { testImage with roster := [entry 1] }

/-- The sole member's summary and LEAVE, and the JOIN of station 7. -/
def leaverAndJoiner : Marks := { Marks.empty with leavers := 0x02, join := some (7, 0x11223344) }

def tracks (s : State) (m : Image) : Bool :=
  decide (s.cfg = some testConfig) && decide (s.sc.state = .listen ∨ s.sc.state = .joining) && decide (s.iu.image = some m) &&
    decide (s.ct.state = .window) && decide (s.ct.window = some 6000)

/-- An image that goes on, with the joiner's entry in it and without it, and one that the removals empty; the three cases of the mark. -/
theorem witness_TrackedImageTakesItsCycleEnd :
    (tracks (tracking .listen testImage .empty 0x26) testImage = true ∧
        rosterKept testImage.roster .empty 0x26 ≠ [] ∧
        (testImage.cycleEnd .empty 0x26 none testConfig.digest 2).lists testConfig.id = true) ∧
      (tracks (tracking .joining othersImage .empty 0x32) othersImage = true ∧
        (othersImage.cycleEnd .empty 0x32 none testConfig.digest 2).lists testConfig.id = false ∧
        (tracking .joining othersImage .empty 0x32).sc.departing = false ∧
        (tracking .joining othersImage .empty 0x32).sc.attempts < 7) ∧
      (tracks (tracking .joining soleMember leaverAndJoiner 0x02) soleMember = true ∧
        rosterKept soleMember.roster leaverAndJoiner 0x02 = []) ∧
      (let s := tracking .listen testImage .empty 0x26
       (s.ct.mark = some { instant := 1000, provisional := true } ∧ 6000 < 1000 + testConfig.period * unitsPerMicrosecond) ∧
         (let late := s.setCt { s.ct with window := some (1000 + periodOf testConfig) }
          late.ct.state = .window ∧ late.ct.window = some (1000 + periodOf testConfig) ∧
            1000 + testConfig.period * unitsPerMicrosecond ≤ 1000 + periodOf testConfig) ∧
         (s.setCt { s.ct with mark := none }).ct.mark = none) := by decide

/-- R66: the removals empty the roster, so the image is discarded although the cycle end admits a JOIN. -/
theorem test_emptied_roster_is_discarded_whatever_joins :
    (soleMember.cycleEnd leaverAndJoiner 0x02 none testConfig.digest 2).ids = [7] ∧
      (match exec .joinWindowTimerExpiry (tracking .listen soleMember leaverAndJoiner 0x02) with
        | .next t => decide (t.iu = .empty) && decide (t.ct.state = .untimed) && decide (t.sc.state = .listen)
        | .fault _ => false
        | .refused _ => false) = true := by decide

theorem witness_FrameStartRetimesTheCycle :
    ((member 0).cfg = some testConfig ∧ (member 0).receiverOn = true ∧ (member 0).ti.receiving = none ∧
        (member 0).ct.state = .slots ∧ (member 0).ct.mark = some { instant := 1000, provisional := true }) ∧
      (closing .synced 0).ct.state = .window ∧ (inInterval.ct.state = .interval ∧ inInterval.iu.image.isSome) ∧
      ((founder true).receiverOn = true ∧ (founder true).ct.state = .untimed ∧ (founder true).ct.mark = none) := by decide

def sending (s : State) (tx : TxState) (frame : OwnFrame) : State :=
  s.setTi { s.ti with tx, frame := some frame, startGuard := if tx = .armed then some 700 else none }

/-- A state whose transmitter sends the abort mark of a second clash. -/
def clashing (s : State) : State := s.setTi { s.ti with clashSuspect := true, clashAfterAbort := true }

/-- A LISTEN station that a LEAVE reached while its JOIN was on the line. -/
def leaving (s : State) : State := s.setSc { s.sc with deferredLeave := true }

theorem witness_FrameBeginsOrFails :
    ((sending (member 1) .armed ownBeatFrame).cfg = some testConfig ∧ (sending (member 1) .armed ownBeatFrame).ti.tx = .armed ∧
        (sending (member 1) .armed ownBeatFrame).ti.startGuard = some 700 ∧
        (sending (member 1) .armed ownBeatFrame).ti.receiving = none ∧ 700 ≤ 700) ∧
      ((sending (listener 1) .armed (.join 7)).sc.state ≠ .member ∧
        (sending (listener 1) .armed (.join 7)).ti.frame = some (.join 7)) ∧
      (let s := sending (member 1) .aborting ownBeatFrame
       s.sc.state = .member ∧ s.ti.frame = some (.beat false 5 9 1 [.leave] [.leave] none) ∧ s.ti.tx = .aborting ∧
         s.ti.clashAfterAbort = false ∧ s.sc.deferredLeave = false) ∧
      (let s := clashing (sending (member 1) .aborting ownBeatFrame)
       s.sc.state = .member ∧ s.ti.frame = some (.beat false 5 9 1 [.leave] [.leave] none) ∧ s.ti.tx = .aborting ∧
         s.ti.clashAfterAbort = true) ∧
      (let s := clashing (sending (listener 3) .aborting (.join 7))
       s.sc.state ≠ .member ∧ s.ti.tx = .aborting ∧ s.ti.clashAfterAbort = true) ∧
      (let s := leaving (sending (listener 3) .aborting (.join 7))
       s.sc.state = .listen ∧ s.ti.tx = .aborting ∧ s.ti.clashAfterAbort = false ∧ s.sc.deferredLeave = true) := by decide

/-- An ARMED BEAT with the pointer at the own slot, and with the pointer past it; a FOREIGN BEAT and a frame cut short. -/
theorem witness_ArmedBeatIsBroughtUpToDate :
    (let s := sending (hearing (member 1)) .armed ownBeatFrame
     s.cfg = some testConfig ∧ s.sc.state = .member ∧ s.sc.deferredLeave = false ∧ s.iu.image = some testImage ∧
       s.ct.state = .slots ∧ s.ti.receiving = some false ∧ s.ti.tx = .armed ∧
       s.ti.frame = some (.beat false 5 9 1 [.leave] [.leave] none) ∧ s.ct.position = some s.ct.pointer) ∧
      (sending (hearing (member 2)) .armed ownBeatFrame).ct.position ≠
        some (sending (hearing (member 2)) .armed ownBeatFrame).ct.pointer ∧
      (receiveLine (beatLine (beat 9 0 none)) = .whole (.beat (beat 9 0 none) true) true ∧
        (beat 9 0 none).structureOk testConfig true = true ∧ (beat 9 0 none).summary = none ∧ (9 : StationId) ≠ testConfig.id ∧
        testImage.lists 9 = false) ∧
      receiveLine [false, true] = .cutShort := by decide +kernel

/-- The own BEAT in the own slot, one record in flight. -/
def ownSlot : State :=
  ((sending (hearing (member 1)) .sending ownBeatFrame).setRt { queue := [], inFlight := [record], gapPending := false })

def ownBeatSent : Beat :=
  { sender := 2, doubt := false, epoch := 5, cycle := 9, position := 1, items := [.leave], records := [record], summary := none }

theorem witness_OwnBeatEndsWithMatchingReadback :
    ownSlot.cfg = some testConfig ∧ ownSlot.sc.state = .member ∧ ownSlot.sc.deferredLeave = false ∧
      ownSlot.iu.image = some testImage ∧ ownSlot.ct.state = .slots ∧ ownSlot.ti.receiving = some false ∧
      ownSlot.ti.tx = .sending ∧ ownSlot.ownBeat testConfig = some ownBeatSent ∧ testImage.position testConfig.id = some 1 ∧
      ownSlot.ct.position = some 1 ∧ ownSlot.ct.pointer = 1 := by decide

/-- A clean BEAT of the listed station 1, of the unlisted station 9, and of the own id, at the same state. -/
theorem witness_ForeignBeatAndIdClash_and_CleanBeatIsTaken :
    (hears (hearing (member 0)) .member = true ∧ (hearing (member 0)).iu.image = some testImage) ∧
      (receiveLine (beatLine (beat 1 0 none)) = .whole (.beat (beat 1 0 none) true) true ∧
        (beat 1 0 none).structureOk testConfig true = true ∧ testImage.position 1 = some 0 ∧
        (hearing (member 0)).ct.pointer ≤ 0 ∧ (beat 1 0 none).epoch = testImage.epoch ∧
        (beat 1 0 none).cycle = testImage.cycle) ∧
      (receiveLine (beatLine (beat 9 0 none)) = .whole (.beat (beat 9 0 none) true) true ∧
        (beat 9 0 none).structureOk testConfig true = true ∧ testImage.lists 9 = false) ∧
      (receiveLine (beatLine (beat 2 0 none)) = .whole (.beat (beat 2 0 none) true) true ∧
        (beat 2 0 none).structureOk testConfig true = true ∧ (beat 2 0 none).sender = testConfig.id) := by decide +kernel

/-- A LISTEN, a JOINING and a MEMBER station, one of them with an ARMED JOIN and one with an ARMED BEAT, inside a frame; a BEAT and a JOIN with the own id. -/
theorem witness_ForeignBeatAndIdClash_in_every_collecting_state :
    (let s := sending (hearing (listener 3)) .armed (.join 7)
     s.cfg = some testConfig ∧ s.sc.state = .listen ∧ s.ti.receiving = some false ∧ s.ti.tx = .armed) ∧
      hears (hearing ((listener 0).setSc { (listener 0).sc with state := .joining })) .joining = true ∧
      (sending (hearing (member 1)) .armed ownBeatFrame).ti.tx = .armed ∧
      (receiveLine (beatLine (beat 2 0 (some testImage))) = .whole (.beat (beat 2 0 (some testImage)) true) true ∧
        (beat 2 0 (some testImage)).sender = testConfig.id) ∧
      receiveLine (lineOf (withCrc (joinContent 2 7))) = .whole (.join testConfig.id 7) true := by decide +kernel

/-- The states of the two statements about summaries. -/
theorem witness_doubtful_member_and_joiner_hear :
    (hears (hearing (member 0)) .member = true ∧ (hearing (member 0)).iu.certainty = some .synced) ∧
      (hears (hearing ((member 0).setIu { (member 0).iu with certainty := some .doubtful })) .member = true ∧
        (hearing ((member 0).setIu { (member 0).iu with certainty := some .doubtful })).iu.image = some testImage) ∧
      hears (hearing ((listener 0).setSc { (listener 0).sc with state := .joining })) .joining = true := by decide

/-- A frame cut short; BEATs of unsound structure from a listed and from an unlisted station, one with another cycle number, one whose stated position alone is wrong, one for a slot that has passed, and a JOIN. -/
theorem witness_ErroneousAndInconsistentFramesAreCounted :
    hears (hearing (member 0)) .member = true ∧ receiveLine [false, true] = .cutShort ∧
      (let listed := { beat 1 0 (some testImage) with doubt := true }
       receiveLine (beatLine listed) = .whole (.beat listed true) true ∧ listed.structureOk testConfig true = false ∧
         testImage.position listed.sender = some 0) ∧
      (let unlisted := { beat 9 0 (some testImage) with doubt := true }
       receiveLine (beatLine unlisted) = .whole (.beat unlisted true) true ∧ unlisted.structureOk testConfig true = false ∧
         testImage.lists unlisted.sender = false) ∧
      (let old := { beat 1 0 none with cycle := 8 }
       receiveLine (beatLine old) = .whole (.beat old true) true ∧ old.structureOk testConfig true = true ∧
         old.cycle ≠ testImage.cycle) ∧
      (receiveLine (beatLine (beat 5 1 none)) = .whole (.beat (beat 5 1 none) true) true ∧
        (beat 5 1 none).structureOk testConfig true = true ∧ testImage.position 5 = some 2 ∧
        (hearing (member 0)).ct.pointer ≤ 1 ∧ (1 : Fin 16).val ≠ 2) ∧
      (0 < (member 2).ct.pointer ∧ testImage.position 1 = some 0) ∧
      (receiveLine (lineOf (withCrc (joinContent 7 1))) = .whole (.join 7 1) true ∧ (7 : StationId) ≠ testConfig.id) := by
  decide +kernel

/-- The summary of station 1 equals the copy, or differs from it and is adopted, or confirms a join, or does not. -/
theorem witness_MemberConfirmsOrAdoptsSummary_and_SummaryEndsTheJoin :
    (receiveLine (beatLine (beat 1 0 (some testImage))) = .whole (.beat (beat 1 0 (some testImage)) true) true ∧
        (beat 1 0 (some testImage)).structureOk testConfig true = true ∧ testImage.lists 1 = true ∧
        testImage.digest = testConfig.digest ∧ testImage.position 1 = some 0 ∧ testImage.lists testConfig.id = true ∧
        (hearing (member 0)).iu.copy = some testImage) ∧
      (receiveLine (beatLine (beat 1 0 (some othersImage))) = .whole (.beat (beat 1 0 (some othersImage)) true) true ∧
        (beat 1 0 (some othersImage)).structureOk testConfig true = true ∧ othersImage.position 1 = some 0 ∧
        othersImage.lists testConfig.id = false ∧ 0 + 1 < othersImage.roster.length ∧ (inState .joining).sc.attempts < 7 ∧
        (inState .joining).sc.departing = false) := by decide +kernel

/-- A summary with an item after it, one from the last slot, and the states in which a failing summary ends a join for good. -/
theorem witness_SummaryEndsTheJoin_in_every_row :
    (let b := { beat 1 0 (some testImage) with items := [.leave] }
     receiveLine (beatLine b) = .whole (.beat b true) true ∧ b.structureOk testConfig true = true) ∧
      (receiveLine (beatLine (beat 5 2 (some othersImage))) = .whole (.beat (beat 5 2 (some othersImage)) true) true ∧
        (beat 5 2 (some othersImage)).structureOk testConfig true = true ∧ othersImage.position 5 = some 2 ∧
        othersImage.roster.length ≤ 2 + 1 ∧ othersImage.digest = testConfig.digest ∧ othersImage.lists testConfig.id = false) ∧
      (receiveLine (beatLine (beat 5 2 (some testImage))) = .whole (.beat (beat 5 2 (some testImage)) true) true ∧
        testImage.roster.length ≤ 2 + 1 ∧ testImage.lists testConfig.id = true) ∧
      (let s := hearing ((listener 0).setSc { (listener 0).sc with state := .joining, attempts := 7 })
       hears s .joining = true ∧ s.sc.departing = false ∧ 7 ≤ s.sc.attempts) ∧
      (let s := hearing ((listener 0).setSc { (listener 0).sc with state := .joining, departing := true })
       hears s .joining = true ∧ s.sc.departing = true) := by decide +kernel

/-- A larger roster without station 2, and rosters that list stations 2 and 9. -/
def largerImage : Image := { testImage with roster := [entry 1, entry 4, entry 5, entry 9] }

def withNine : Image := { testImage with roster := [entry 1, entry 2, entry 9] }

/-- A whole BEAT of sound structure with a summary, its header in agreement with it, from a station in it. -/
def sound (sender : StationId) (position : Fin 16) (x : Image) : Bool :=
  let b := beat sender position (some x)
  decide (receiveLine (beatLine b) = .whole (.beat b true) true) && b.structureOk testConfig true &&
    decide (x.position sender = some position.val) && decide (b.epoch = x.epoch) && decide (b.cycle = x.cycle) &&
    decide (sender ≠ testConfig.id)

theorem witness_SummaryEvictsOrHasAnotherDigest :
    (hears (hearing (member 0)) .member = true ∧ (hearing (member 0)).iu.image = some testImage ∧
        (hearing (member 0)).iu.copy ≠ some othersImage ∧ testImage.position 1 = some 0) ∧
      (sound 1 0 { testImage with digest := 1 } = true ∧ { testImage with digest := 1 }.digest ≠ testConfig.digest) ∧
      (sound 1 0 othersImage = true ∧ othersImage.digest = testConfig.digest ∧ othersImage.lists testConfig.id = false) := by
  decide +kernel

/-- Ignored at a SYNCED and adopted at a DOUBTFUL station; ignored as the smaller; yielded to from a slot in front and from the last one. -/
theorem witness_ForeignSummaryIsIgnoredOrYieldedTo :
    (hears (hearing (member 0)) .member = true ∧ (hearing (member 0)).iu.certainty = some .synced ∧ testImage.lists 9 = false ∧
        testImage.lists 4 = false) ∧
      (sound 9 2 withNine = true ∧ withNine.lists testConfig.id = true ∧ withNine.digest = testConfig.digest) ∧
      (sound 9 0 { testImage with roster := [entry 9] } = true ∧ foreignLarger testImage.ids [9] = false) ∧
      (sound 4 1 largerImage = true ∧ sound 9 3 largerImage = true ∧ largerImage.lists testConfig.id = false ∧
        foreignLarger testImage.ids largerImage.ids = true ∧ 1 + 1 < largerImage.roster.length ∧
        largerImage.roster.length ≤ 3 + 1 ∧ largerImage.digest = testConfig.digest) := by
  decide +kernel

/-- A summary of a station that the tracked image lists, of one that it does not, from the last slot, and one heard while UNTIMED. -/
theorem witness_ListenerTracksSummary :
    (hears (hearing (listener 0)) .listen = true ∧ (hearing (listener 0)).iu.image = some testImage ∧
        testImage.lists 1 = true ∧ testImage.lists 9 = false) ∧
      ((hearing (founder true)).sc.state = .listen ∧ (hearing (founder true)).ct.state = .untimed ∧
        (hearing (founder true)).ti.receiving = some false ∧ (hearing (founder true)).ti.tx = .idle ∧
        (hearing (founder true)).sc.deferredLeave = false) ∧
      (sound 1 0 othersImage = true ∧ 0 + 1 < othersImage.roster.length) ∧
      (sound 9 3 largerImage = true ∧ largerImage.roster.length ≤ 3 + 1 ∧ largerImage.digest = testConfig.digest) := by
  decide +kernel

/-- A LISTEN station at the last slot that hears the last member, with a summary, with one of another digest, and without a summary; the same summaries heard while UNTIMED; a roster that lists the station. -/
theorem witness_JoinIsJudgedAtWindowOpening_at_a_frame_end :
    (let s := hearing (joiner othersImage true)
     hears s .listen = true ∧ s.iu.image = some othersImage ∧ s.ct.pointer ≤ 2 ∧ s.ct.members ≤ 2 + 1 ∧
       s.sc.joiningWanted = true ∧ s.sc.holdoff = none) ∧
      (sound 5 2 othersImage = true ∧ othersImage.roster.length ≤ 2 + 1 ∧ othersImage.lists testConfig.id = false) ∧
      (sound 5 2 { othersImage with digest := 1 } = true ∧ { othersImage with digest := 1 }.digest ≠ testConfig.digest) ∧
      (receiveLine (beatLine (beat 5 2 none)) = .whole (.beat (beat 5 2 none) true) true ∧
        (beat 5 2 none).structureOk testConfig true = true ∧ othersImage.position 5 = some 2) ∧
      ((hearing (founder true)).ct.state = .untimed ∧ (hearing (founder true)).sc.joiningWanted = true) ∧
      sound 5 2 testImage = true ∧ testImage.lists testConfig.id = true := by
  decide +kernel

/-- The summary that ends a join, evicts or is yielded to from the last slot, the last two of another digest. -/
theorem witness_joinJudged_after_other_summaries :
    (let s := hearing ((joiner testImage false).setSc { (joiner testImage false).sc with state := .joining })
     hears s .joining = true ∧ s.sc.joiningWanted = true ∧ s.sc.attempts < 7 ∧ s.sc.departing = false) ∧
      (sound 5 2 othersImage = true ∧ othersImage.lists testConfig.id = false ∧ testImage.lists 5 = true) ∧
      (sound 5 2 { othersImage with digest := 1 } = true) ∧
      (let s := hearing ((member 0).setSc { (member 0).sc with joiningWanted := true })
       hears s .member = true ∧ s.sc.joiningWanted = true ∧ s.sc.holdoff = none) ∧
      (sound 9 3 { largerImage with digest := 1 } = true ∧ { largerImage with digest := 1 }.lists testConfig.id = false ∧
        largerImage.roster.length ≤ 3 + 1 ∧ { largerImage with digest := 1 }.digest ≠ testConfig.digest) := by
  decide +kernel

/-- LISTEN, JOINING and UNTIMED stations, and one that sends an abort mark, inside a frame; a BEAT of a listed station before the pointer, at it and from the last slot, and one of a station not listed. -/
theorem witness_frames_at_every_collecting_station :
    (hears (hearing (listener 0)) .listen = true ∧ (hearing (listener 0)).receiverOn = true ∧
        (hearing (listener 0)).iu.image = some testImage ∧ (hearing (listener 0)).ct.pointer ≤ 0) ∧
      (let s := hearing ((listener 0).setSc { (listener 0).sc with state := .joining })
       hears s .joining = true ∧ s.receiverOn = true ∧ s.iu.image = some testImage) ∧
      (let s := hearing (founder true)
       s.cfg = some testConfig ∧ s.receiverOn = true ∧ s.sc.deferredLeave = false ∧ s.ct.state = .untimed ∧ s.iu.image = none ∧
         s.ti.receiving = some false ∧ s.ti.tx = .idle) ∧
      (let s := sending (hearing (member 1)) .aborting ownBeatFrame
       s.receiverOn = true ∧ s.ct.state = .slots ∧ s.ti.tx = .aborting ∧ s.ti.receiving = some false ∧ 0 < s.ct.pointer) ∧
      ((beat 1 0 none).structureOk testConfig true = true ∧ testImage.position 1 = some 0) ∧
      ((hearing (listener 2)).ct.pointer ≤ 2 ∧ (hearing (listener 2)).ct.members ≤ 2 + 1 ∧ testImage.position 5 = some 2 ∧
        receiveLine (beatLine (beat 5 2 none)) = .whole (.beat (beat 5 2 none) true) true) ∧
      testImage.lists 9 = false := by
  decide +kernel

/-- What an ARMED BEAT meets: an ignored summary, an unsound BEAT and a JOIN of no listed station; BEATs of stations 1 and 5 before and after the own slot 1, one with the copy as its summary and one of another digest; adoptions from stations 1 and 5 and, while DOUBTFUL, 9; an eviction and a yield. -/
theorem witness_ArmedBeatIsBroughtUpToDate_in_every_row :
    (let s := sending (hearing (member 1)) .armed ownBeatFrame
     s.ct.position = some s.ct.pointer ∧ s.ct.pointer = 1 ∧ s.iu.certainty = some .synced ∧ s.iu.copy = some testImage) ∧
      (sound 9 2 withNine = true ∧ withNine.lists testConfig.id = true ∧ testImage.lists 9 = false) ∧
      (let unlisted := { beat 9 0 (some testImage) with doubt := true }
       receiveLine (beatLine unlisted) = .whole (.beat unlisted true) true ∧ unlisted.structureOk testConfig true = false) ∧
      receiveLine (lineOf (withCrc (joinContent 7 1))) = .whole (.join 7 1) true ∧
      (testImage.position 1 = some 0 ∧ testImage.position 5 = some 2 ∧ sound 1 0 testImage = true ∧
        sound 1 0 { testImage with digest := 1 } = true) ∧
      (let x := { testImage with cursor := 0 }
       sound 1 0 x = true ∧ sound 5 2 x = true ∧ x ≠ testImage ∧ x.position testConfig.id = some (0 + 1) ∧
         x.position testConfig.id ≠ some (2 + 1) ∧ x.digest = testConfig.digest) ∧
      (sending (hearing ((member 1).setIu { (member 1).iu with certainty := some .doubtful })) .armed ownBeatFrame).iu.certainty =
        some .doubtful ∧
      (sound 1 0 othersImage = true ∧ othersImage.lists testConfig.id = false ∧ othersImage ≠ testImage) ∧
      (sound 4 1 largerImage = true ∧ testImage.lists 4 = false ∧ foreignLarger testImage.ids largerImage.ids = true) := by
  decide +kernel

/-- An adoption, and an eviction, of a gather in another epoch by a station whose copy holds its own request; and of the two changes of the run state. -/
theorem witness_reportsAdoption :
    let k : Image := { testImage with epoch := 4, queue := [{ requester := 2, cause := .external, total := 1, serial := 7 }] }
    let s := hearing ((member 0).setIu { (member 0).iu with copy := some k })
    let gathering : Option Gather := some { required := IdSet.ofList [1, 5], acked := 0, elapsed := 0 }
    let x : Image := { testImage with gather := gathering }
    hears s .member = true ∧ s.iu.copy = some k ∧ (sound 1 0 x = true ∧ x.lists testConfig.id = true) ∧ k.epoch ≠ x.epoch ∧
      k.gather = none ∧ x.gather.isSome ∧ (k.ownRequest 2).map (·.serial) = some 7 ∧ x.ownRequest 2 = none ∧ k.run = .running ∧
      (sound 1 0 { othersImage with gather := gathering } = true ∧ { othersImage with gather := gathering }.lists testConfig.id = false ∧
        { othersImage with gather := gathering }.ownRequest 2 = none) ∧
      (sound 1 0 { testImage with run := .halted } = true ∧
        hears (hearing ((member 0).setIu { (member 0).iu with copy := some { testImage with run := .halted } })) .member = true ∧
        sound 1 0 { testImage with cursor := 0 } = true) := by
  decide +kernel

/-- A station inside a frame that started in its join window. -/
def hearsInWindow (s : State) (state : StationState) : Bool :=
  decide (s.cfg = some testConfig) && decide (s.sc.state = state) && decide (s.iu.image = some testImage) &&
    decide (s.ct.state = .window) && decide (s.ti.receiving = some true)

def inWindow (s : State) : State :=
  (s.setTi { s.ti with receiving := some true }).setCt { s.ct with state := .window, silence := none, window := none }

def ownJoin (tx : TxState) : State := sending (inWindow (listener 3)) tx (.join 7)

theorem witness_FrameEndInTheWindowIsTheCycleEnd :
    (hearsInWindow (inWindow (member 3)) .member = true ∧ (inWindow (member 3)).receiverOn = true ∧
        (inWindow (member 3)).sc.deferredLeave = false ∧ (inWindow (member 3)).ti.tx = .idle) ∧
      (hearsInWindow (inWindow (listener 3)) .listen = true ∧ (inWindow (listener 3)).receiverOn = true) ∧
      (hearsInWindow (ownJoin .armed) .listen = true ∧ (ownJoin .armed).ti.tx = .armed ∧
        (ownJoin .armed).ti.frame = some (.join 7)) ∧
      (hearsInWindow (leaving (ownJoin .aborting)) .listen = true ∧ (leaving (ownJoin .aborting)).ti.tx = .aborting) ∧
      receiveLine [false, true] = .cutShort ∧
      (receiveLine (lineOf (withCrc (joinContent 7 1))) = .whole (.join 7 1) true ∧ (7 : StationId) ≠ testConfig.id) ∧
      (let unsound := { beat 1 0 (some testImage) with doubt := true }
       receiveLine (beatLine unsound) = .whole (.beat unsound true) true ∧ unsound.structureOk testConfig true = false) ∧
      (receiveLine (beatLine (beat 1 0 none)) = .whole (.beat (beat 1 0 none) true) true ∧
        (beat 1 0 none).structureOk testConfig true = true ∧ testImage.lists 1 = true ∧
        (beat 1 0 none).records.filter (accepts testConfig 1) ≠ []) ∧
      (receiveLine (beatLine { beat 1 0 none with records := [] }) = .whole (.beat { beat 1 0 none with records := [] } true) true ∧
        { beat 1 0 none with records := [] }.structureOk testConfig true = true) ∧
      (receiveLine (beatLine (beat 9 0 none)) = .whole (.beat (beat 9 0 none) true) true ∧
        (beat 9 0 none).structureOk testConfig true = true ∧ testImage.lists 9 = false) ∧
      (hearsInWindow (ownJoin .sending) .listen = true ∧ (ownJoin .sending).sc.deferredLeave = false ∧
        (ownJoin .sending).ti.tx = .sending ∧ (ownJoin .sending).ti.frame = some (.join 7)) := by
  decide +kernel

/-- A LEAVE that waits: the own JOIN on the line, and the JOIN lost with the winner's frame in progress. -/
theorem witness_LeaveCommandByState_deferred :
    (hearsInWindow (leaving (ownJoin .sending)) .listen = true ∧ (leaving (ownJoin .sending)).sc.deferredLeave = true ∧
        (leaving (ownJoin .sending)).ti.tx = .sending ∧ (leaving (ownJoin .sending)).ti.frame = some (.join 7)) ∧
      (hearsInWindow (leaving (inWindow (listener 3))) .listen = true ∧
        (leaving (inWindow (listener 3))).sc.deferredLeave = true ∧ (leaving (inWindow (listener 3))).ti.tx = .idle) ∧
      receiveLine (lineOf (withCrc (joinContent 7 1))) = .whole (.join 7 1) true ∧ receiveLine [false, true] = .cutShort ∧
      (receiveLine (beatLine (beat 1 0 none)) = .whole (.beat (beat 1 0 none) true) true ∧
        (beat 1 0 none).structureOk testConfig true = true ∧ testImage.lists 1 = true ∧ (1 : StationId) ≠ testConfig.id) := by
  decide +kernel

/-- What each row needs: a MEMBER SYNCED and DOUBTFUL, a LISTEN station, a JOINING one, one at its eighth attempt and one departing. -/
theorem witness_SummaryInTheWindowComesBeforeTheCycleEnd :
    (let s := inWindow (member 3)
     hearsInWindow s .member = true ∧ s.sc.deferredLeave = false ∧ s.ti.tx = .idle ∧ s.iu.certainty = some .synced ∧
       s.iu.copy = some testImage) ∧
      (inWindow ((member 3).setIu { (member 3).iu with certainty := some .doubtful })).iu.certainty = some .doubtful ∧
      (sound 1 0 { testImage with digest := 1 } = true ∧ { testImage with digest := 1 }.digest ≠ testConfig.digest ∧
        testImage.lists 1 = true) ∧
      (sound 1 0 testImage = true ∧ testImage.position 1 = some 0) ∧
      (sound 1 0 { testImage with cursor := 0 } = true ∧ { testImage with cursor := 0 } ≠ testImage ∧
        { testImage with cursor := 0 }.lists testConfig.id = true) ∧
      (sound 1 0 othersImage = true ∧ othersImage.lists testConfig.id = false ∧ othersImage.digest = testConfig.digest) ∧
      (sound 9 2 withNine = true ∧ withNine.lists testConfig.id = true ∧ testImage.lists 9 = false) ∧
      (sound 9 0 { testImage with roster := [entry 9] } = true ∧ foreignLarger testImage.ids [9] = false) ∧
      (sound 9 3 largerImage = true ∧ largerImage.lists testConfig.id = false ∧
        foreignLarger testImage.ids largerImage.ids = true) ∧
      hearsInWindow (inWindow (listener 3)) .listen = true ∧
      (let joining := fun attempts departing =>
         inWindow ((listener 3).setSc { (listener 3).sc with state := .joining, attempts, departing })
       hearsInWindow (joining 6 false) .joining = true ∧ (joining 6 false).sc.attempts < 7 ∧ 7 ≤ (joining 7 false).sc.attempts ∧
         (joining 0 true).sc.departing = true) := by
  decide +kernel

/-- A whole BEAT of sound structure with a summary in which its sender stands at a position, and whether its header disagrees with it. -/
def heardWith (b : Beat) (x : Image) (disagrees : Bool) : Bool :=
  decide (receiveLine (beatLine b) = .whole (.beat b true) true) && b.structureOk testConfig true && decide (b.summary = some x) &&
    decide (b.sender ≠ testConfig.id) &&
    (match x.position b.sender with
      | some p => b.disagrees x p == disagrees
      | none => false)

/-- Headers that disagree with the summary confirmed, adopted, tracked or yielded to: in the cycle number, in the epoch, in the position. -/
theorem witness_headers_that_disagree :
    heardWith (beat 1 0 (some testImage)) testImage false = true ∧
      heardWith { beat 1 0 (some testImage) with cycle := 8 } testImage true = true ∧
      heardWith { beat 1 0 (some testImage) with epoch := 4 } testImage true = true ∧
      heardWith (beat 1 3 (some testImage)) testImage true = true ∧
      heardWith { beat 1 0 (some { testImage with cursor := 0 }) with cycle := 8 } { testImage with cursor := 0 } true = true ∧
      heardWith (beat 1 3 (some othersImage)) othersImage true = true ∧
      heardWith { beat 9 2 (some withNine) with cycle := 8 } withNine true = true ∧
      heardWith (beat 4 3 (some largerImage)) largerImage true = true := by
  decide +kernel

/-- A confirming summary of a station before the pointer; a DOUBTFUL station that hears a summary which lists it and not the sender, and one of another digest. -/
theorem witness_confirmed_late_and_ignored_while_doubtful :
    (hears (hearing (member 1)) .member = true ∧ testImage.position 1 = some 0 ∧ 0 < (hearing (member 1)).ct.pointer) ∧
      (let s := hearing ((member 0).setIu { (member 0).iu with certainty := some .doubtful })
       hears s .member = true ∧ s.iu.image = some testImage ∧ testImage.lists 9 = false) ∧
      (let b := beat 9 0 (some testImage)
       receiveLine (beatLine b) = .whole (.beat b true) true ∧ b.structureOk testConfig true = true ∧
         testImage.lists testConfig.id = true) ∧
      (sound 9 2 { withNine with digest := 1 } = true ∧ { withNine with digest := 1 }.lists testConfig.id = true) := by
  decide +kernel

/-- A JOINING station, departing or not, that hears stations its image lists and does not list; with a mark and without one. -/
theorem witness_SummaryEndsTheJoin_timing :
    let joining := fun departing => hearing ((listener 0).setSc { (listener 0).sc with state := .joining, departing })
    (hears (joining true) .joining = true ∧ hears (joining false) .joining = true ∧ (joining false).iu.image = some testImage ∧
        testImage.lists 1 = true ∧ testImage.lists 9 = false ∧ testImage.lists 4 = false) ∧
      (sound 1 0 testImage = true ∧ sound 9 2 withNine = true ∧ withNine.lists testConfig.id = true) ∧
      (sound 4 1 largerImage = true ∧ largerImage.lists testConfig.id = false) ∧
      ((slots 0).mark = some { instant := 1000, provisional := true } ∧
        ((joining false).setCt { (joining false).ct with mark := none }).ct.mark = none) := by
  decide +kernel

/-- The window closed by a BEAT with a summary at a station whose JOIN is ARMED, or that sends an abort mark while a LEAVE waits; a DOUBTFUL MEMBER there. -/
theorem witness_SummaryInTheWindow_armed_and_aborting :
    (hearsInWindow (ownJoin .armed) .listen = true ∧ (ownJoin .armed).sc.deferredLeave = false ∧
        (ownJoin .armed).ti.tx = .armed ∧ (ownJoin .armed).ti.frame = some (.join 7)) ∧
      (hearsInWindow (leaving (ownJoin .aborting)) .listen = true ∧ (leaving (ownJoin .aborting)).ti.tx = .aborting) ∧
      (let s := inWindow ((member 3).setIu { (member 3).iu with certainty := some .doubtful })
       hearsInWindow s .member = true ∧ s.ti.tx = .idle ∧ s.sc.deferredLeave = false) ∧
      (sound 1 0 othersImage = true ∧ testImage.lists 1 = true ∧ sound 9 3 largerImage = true ∧ testImage.lists 9 = false) := by
  decide +kernel

/-- A LISTEN station whose cycle overran. -/
theorem witness_TrackedImageTakesItsCycleEnd_at_an_overrun :
    let s := (listener 3).setCt { slots 3 with state := .window, silence := none, window := some (2 * periodOf testConfig), heard := 0xFFFF }
    s.cfg = some testConfig ∧ s.sc.state = .listen ∧ s.iu.image = some testImage ∧
      rosterKept testImage.roster s.iu.marks s.ct.heard ≠ [] ∧ s.ct.mark = some { instant := 1000, provisional := true } ∧
      1000 + testConfig.period * unitsPerMicrosecond ≤ 2 * periodOf testConfig := by
  decide +kernel

/-- R55: a BEAT that ends while the window is open counts as earlier than the pointer, whatever position it states. -/
theorem test_window_beat_is_passed :
    headerDoubt testImage (inWindow (member 3)).ct false (beat 5 2 none) = true ∧
      headerDoubt testImage (inWindow (member 3)).ct false (beat 5 7 none) = true ∧
      headerDoubt testImage (slots 2) false (beat 5 2 none) = false := by decide

theorem witness_HaltItemsArriveAndAreReported_and_PriorityRequestIsJudgedInOrder :
    ({ testImage with run := .halted }.arrive .empty 2 (.priorityReq .range 3 7)).2.2 = .refused .halted 7 ∧
      ({ testImage with gather := some { required := 0x26, acked := 0, elapsed := 0 } }.arrive .empty 2
        (.priorityReq .range 3 7)).2.2 = .refused .halting 7 ∧
      ({ testImage with queue := [request 1, request 3, request 4, request 5] }.arrive .empty 2 (.priorityReq .range 3 7)).2.2 =
        .refused .full 7 ∧
      (testImage.arrive .empty 2 (.priorityReq .range 3 7)).1.queue =
        [{ requester := 2, cause := .range, total := 3, serial := 7 }] ∧
      ({ testImage with queue := [request 2] }.arrive .empty 2 (.priorityReq .range 3 7)).1.queue = [request 2] ∧
      { testImage with queue := [request 2] }.queue.find? (·.requester = 2) = some (request 2) ∧
      ((member 0).sc.state = .member ∧ (member 0).iu.image = some testImage) ∧
      (testImage.run = .running ∧ testImage.gather = none) ∧
      IdSet.has ({ required := 0x26, acked := 0, elapsed := 0 } : Gather).required 5 = true ∧
      IdSet.has ({ required := 0x26, acked := 0, elapsed := 0 } : Gather).required 6 = false := by decide

/-- The cycle end of testImage with a part replaced, every id of it heard. -/
def ended (m : Image) (k : Marks) (heard : IdSet) : Image := m.cycleEnd k heard none 0 2

/-- A gather complete, complete once a leaver is gone (R138), at its eighth cycle end, and going on; a resume; a capture before its last repeat and at it; a queue head promoted, also into the room that a resume or an ended capture makes, and left while halted. -/
theorem witness_CycleEndMovesHaltAndCapture :
    ((ended { testImage with gather := some { required := 0x26, acked := 0x26, elapsed := 7 } } .empty 0x26).run = .halted ∧
      (ended { testImage with gather := some { required := 0x26, acked := 0x22, elapsed := 3 } }
        { Marks.empty with leavers := 0x04 } 0x26).run = .halted ∧
      { testImage with gather := some { required := 0x26, acked := 0x22, elapsed := 7 } }.haltChange .empty 0x26 =
        .incomplete 0x04 ∧
      (ended { testImage with gather := some { required := 0x26, acked := 0x22, elapsed := 6 } } .empty 0x26).gather =
        some { required := 0x26, acked := 0x22, elapsed := 7 }) ∧
      (ended { testImage with run := .halted } { Marks.empty with resume := true } 0x26).run = .running ∧
      ((ended { testImage with capture := some { capture with next := 6 } } .empty 0x26).capture = some capture ∧
        ({ capture with next := 6 } : Capture).next + 1 < capture.request.total) ∧
      ((ended { testImage with capture := some capture, queue := [request 1] } .empty 0x26).capture =
          some { request := request 1, next := 0 } ∧ capture.request.total ≤ capture.next + 1) ∧
      (ended { testImage with queue := [request 5], gather := some { required := 0x26, acked := 0x26, elapsed := 0 } } .empty
        0x26).queue = [request 5] := by decide

/-- An entry heard, one admitted and not heard, missed counts 1 and 2; a JOIN admitted and refused. -/
theorem witness_RosterEpochAndCursorAtTheCycleEnd :
    IdSet.has 0x02 (entry 1).id = true ∧ ({ entry 1 with admitted := true } : RosterEntry).admitted = true ∧
      ({ entry 1 with missed := 1 } : RosterEntry).cycleEnd 0 = some { entry 1 with missed := 2 } ∧
      ({ entry 1 with missed := 2 } : RosterEntry).cycleEnd 0 = none ∧
      ((testImage.cycleEnd { Marks.empty with join := some (7, 0x11223344) } 0x26 none 0 2).ids = [1, 2, 5, 7] ∧
        (testImage.cycleEnd { Marks.empty with join := some (7, 0x11223344) } 0x26 none 0 2).epoch = 6) ∧
      (testImage.cycleEnd { Marks.empty with join := some (7, 1) } 0x26 none 0 2).epoch = 5 ∧
      (testImage.cycleEnd .empty 0x26 (slots 0).plan 0x11223344 2).cursor = 0 := by decide

/-- Fewer entries; equal numbers with a lower id at the first place that differs. -/
theorem witness_YieldComparisonIsDecided :
    idsAscending [1, 4] = true ∧ idsAscending [1, 3] = true ∧ foreignLarger [1, 4] [1, 3] = true ∧
      foreignLarger [1, 3] [1, 4] = false ∧ foreignLarger [1, 3] [4, 5, 6] = true := by decide

/-- Nine bit times of one level in a row, between the group mark and the next one; a BEAT with every part at its upper bounds. -/
theorem witness_FramesReadBackAsSent :
    (lineOf [0x01, 0x00]).drop 9 = List.replicate 9 false ++ [true] ∧
      ((beat 1 0 (some testImage)).items.length ≤ 7 ∧ (beat 1 0 (some testImage)).records.length ≤ 15 ∧
        testImage.roster.length < 256 ∧ testImage.cursor < 256 ∧ (∀ e ∈ testImage.roster, e.missed < 4)) := by decide

theorem witness_PortCommandsAreReadFromTheirBytes :
    (Instr.release 0x0102).wellFormed = true ∧ encodePort (.release 0x0102) = some [5, 1, 2] ∧
      (Instr.unknown 0xFF).wellFormed = true ∧ encodePort (.unknown 0xFF) = some [0xFF] := by decide

/-- The laws that every step keeps hold at a member with records, a pending item and a lawful image. -/
theorem witness_EveryStepKeepsTheLaws :
    (member 0).du.wf = true ∧ (member 0).rt.wf ∧ (member 0).agrees ∧ (member 0).countsBounded ∧
      (member 0).pendingSetOk ∧ (member 0).imagesOk ∧
      step ((member 0).setPending [.close]) = exec .close (member 0) := by
  refine ⟨rfl, ⟨by decide, by decide⟩, ⟨?_, ?_⟩, ⟨by decide, by decide, by decide, by decide⟩,
    ⟨by decide, fun h => absurd rfl h⟩, ⟨?_, ?_⟩, rfl⟩
  · simp [State.loadAgrees, member, inState, Loader.afterReset]
  · refine ⟨rfl, rfl, rfl, .inl rfl, ?_⟩
    intro c m hc hm; cases hc; cases hm; decide
  · intro m hm; cases hm; exact ⟨by decide, by decide, by decide, fun k hk => by cases hk⟩
  · intro m hm; cases hm; exact ⟨by decide, by decide, by decide, fun k hk => by cases hk⟩

end Sys2Proof.Tests
end

section
/-! The JOIN command (R61): what the port does with it, one equation per row of the rule's table, and the statement about it. -/

namespace Sys2Proof.Machine

/-- With RESETn high and no command in the select yet, the port takes a command (R168). -/
theorem State.portTakes_of_portFree {s : State} (h : s.portFree) : s.portTakes = true := by
  obtain ⟨hreset, hselect⟩ := h
  simp [State.portTakes, hreset, hselect]

theorem exec_join (now : Instant) (s : State) : exec (.join now) s = .next (s.portCommand (s.takeJoin now)) := rfl

theorem exec_join_of_portFree {s : State} (h : s.portFree) (now : Instant) :
    exec (.join now) s = .next (s.takeJoin now) := by
  rw [exec_join, State.portCommand_taken (State.portTakes_of_portFree h)]

variable {s : State} (now : Instant)

theorem State.takeJoin_loading_or_fault (h : s.sc.state = .loading ∨ s.sc.state = .fault) :
    s.takeJoin now = s.respond .wrongState [] := by
  rcases h with h | h <;> simp [State.takeJoin, h]

theorem State.takeJoin_idle {c : StationConfig} (h : s.sc.state = .idle) (hc : s.cfg = some c) :
    s.takeJoin now =
      ((s.setSc { s.sc with joiningWanted := true, attempts := 0 }).listenUntimed c now).respond .done [] := by
  simp [State.takeJoin, h, hc]

theorem State.takeJoin_listen_notWanted (h : s.sc.state = .listen) (hw : s.sc.joiningWanted = false) :
    s.takeJoin now = (s.setSc { s.sc with joiningWanted := true, attempts := 0 }).respond .done [] := by
  simp [State.takeJoin, h, hw]

theorem State.takeJoin_listen_wanted (h : s.sc.state = .listen) (hw : s.sc.joiningWanted = true) :
    s.takeJoin now = s.respond .already [] := by
  simp [State.takeJoin, h, hw]

theorem State.takeJoin_joining_or_member (h : s.sc.state = .joining ∨ s.sc.state = .member) :
    s.takeJoin now = s.respond (if s.sc.departing then .wrongState else .already) [] := by
  rcases h with h | h <;> simp [State.takeJoin, h]

/-- A JOIN in JOINING or MEMBER is answered WRONG_STATE by a departing station and ALREADY by another (R61). -/
theorem ResponseCode.byte_of_departing (departing : Bool) :
    (if departing then ResponseCode.wrongState else .already).byte = if departing then 0x04 else 0x01 := by
  cases departing <;> rfl

/-- Settles O15: the port takes the command, and each row of R61 is the equation of `takeJoin` for its station state. In the row of IDLE the writes of the station controller meet in one, which the writes of the other blocks do not touch. -/
theorem joinCommandByState : Obligations.JoinCommandByState := by
  intro s now hfree
  rw [exec_join_of_portFree hfree]
  refine ⟨?loadingOrFault, ?idle, ?listenNotWanted, ?listenWanted, ?joiningOrMember⟩
  case loadingOrFault =>
    intro h
    rw [State.takeJoin_loading_or_fault now h]
    rfl
  case idle =>
    intro c h hc
    rw [State.takeJoin_idle now h hc]
    rfl
  case listenNotWanted =>
    intro h hw
    rw [State.takeJoin_listen_notWanted now h hw]
    rfl
  case listenWanted =>
    intro h hw
    rw [State.takeJoin_listen_wanted now h hw]
    rfl
  case joiningOrMember =>
    intro h
    rw [State.takeJoin_joining_or_member now h, State.respond, ResponseCode.byte_of_departing]

end Sys2Proof.Machine
end

section
/-! The offset correction (R102): its three cases, the fields of a record that it fills, and the statement about them. -/

namespace Sys2Proof.Machine

section Corrected

variable {raw : Sample} {offset : Int}

theorem corrected_of_sum_neg (h : (raw.toNat : Int) + offset < 0) : corrected raw offset = (0, true) := by
  simp [corrected, h]

theorem corrected_of_sum_above (h : 4095 < (raw.toNat : Int) + offset) : corrected raw offset = (4095, true) := by
  have hnonneg : ¬ (raw.toNat : Int) + offset < 0 := by omega
  simp [corrected, hnonneg, h]

theorem corrected_of_sum_fits (h0 : 0 ≤ (raw.toNat : Int) + offset) (h1 : (raw.toNat : Int) + offset ≤ 4095) :
    corrected raw offset = (BitVec.ofNat 12 ((raw.toNat : Int) + offset).toNat, false) := by
  simp [corrected, Int.not_lt.mpr h0, Int.not_lt.mpr h1]

end Corrected

/-- A number of 0 to 4095 survives being written as a sample. -/
theorem Sample.toNat_ofNat_toNat {n : Int} (h0 : 0 ≤ n) (h1 : n ≤ 4095) : ((BitVec.ofNat 12 n.toNat : Sample).toNat : Int) = n := by
  have hsmall : n.toNat < 2 ^ 12 := by omega
  rw [BitVec.toNat_ofNat, Nat.mod_eq_of_lt hsmall, Int.toNat_of_nonneg h0]

section RecordOf

variable (c : StationConfig) (v : Conversion) (raw : Sample)

@[simp] theorem recordOf_value : (recordOf c v raw).value = (corrected raw (c.offsets.get v.channel)).1 := rfl

@[simp] theorem recordOf_clamped : (recordOf c v raw).clamped = (corrected raw (c.offsets.get v.channel)).2 := rfl

@[simp] theorem recordOf_channel : (recordOf c v raw).channel = v.channel := rfl

end RecordOf

/-- Settles O21: value and CLAMPED of the record are those of the correction by the offset of its channel, and the sum of raw result and offset decides which case of the correction it is. -/
theorem offsetIsAddedAndClamped : Obligations.OffsetIsAddedAndClamped := by
  intro c v raw r sum
  have hvalue : r.value = (corrected raw (c.offsets.get v.channel)).1 := recordOf_value c v raw
  have hclamped : r.clamped = (corrected raw (c.offsets.get v.channel)).2 := recordOf_clamped c v raw
  rw [hvalue, hclamped]
  refine ⟨?below, ?fits, ?above, recordOf_channel c v raw⟩
  case below =>
    intro hneg
    rw [corrected_of_sum_neg hneg]
    exact ⟨rfl, rfl⟩
  case fits =>
    intro h0 h1
    rw [corrected_of_sum_fits h0 h1]
    exact ⟨Sample.toNat_ofNat_toNat h0 h1, rfl⟩
  case above =>
    intro habove
    rw [corrected_of_sum_above habove]
    exact ⟨rfl, rfl⟩

end Sys2Proof.Machine
end

section
/-! The arrival of a PRIORITY_REQ (R116): what it does to the image and its marks, one equation per case of the rule's table, and the statement about it. -/

namespace Sys2Proof.Machine

section ArrivePriority

variable {m : Image} {sender : StationId} {cause : Cause} {total : Nat} {serial : Byte}

theorem Image.arrive_priorityReq (k : Marks) :
    m.arrive k sender (.priorityReq cause total serial) =
      ((m.arrivePriority sender cause total serial).1, k, (m.arrivePriority sender cause total serial).2) := rfl

theorem Image.arrivePriority_halted (hrun : m.run = .halted) :
    m.arrivePriority sender cause total serial = (m, .refused .halted serial) := by
  simp [Image.arrivePriority, hrun]

theorem Image.arrivePriority_halting (hrun : m.run = .running) (hgather : m.gather.isSome) :
    m.arrivePriority sender cause total serial = (m, .refused .halting serial) := by
  simp [Image.arrivePriority, hrun, hgather]

theorem Image.arrivePriority_full (hrun : m.run = .running) (hgather : m.gather = none) (hfull : 4 ≤ m.queue.length) :
    m.arrivePriority sender cause total serial = (m, .refused .full serial) := by
  simp [Image.arrivePriority, hrun, hgather, hfull]

/-- With room in the queue of a running image that gathers for no halt, R116 turns on what R114 asks too: whether the image already holds a request of the sender. -/
theorem Image.arrivePriority_room (hrun : m.run = .running) (hgather : m.gather = none) (hroom : m.queue.length < 4) :
    m.arrivePriority sender cause total serial =
      if m.holdsBack sender then (m, .nothing)
      else ({ m with queue := m.queue ++ [{ requester := sender, cause, total, serial }] }, .nothing) := by
  simp [Image.arrivePriority, Image.holdsBack, hrun, hgather, Nat.not_le.mpr hroom]

/-- An image holds no request of a station when neither its queue nor its active capture is of that station. -/
theorem Image.holdsBack_eq_false {i : StationId} (hqueue : ∀ r ∈ m.queue, r.requester ≠ i)
    (hcapture : ∀ a, m.capture = some a → a.request.requester ≠ i) : m.holdsBack i = false := by
  rw [← Bool.not_eq_true, Image.holdsBack_iff]
  rintro (⟨r, hr, hi⟩ | ⟨a, ha, hi⟩)
  · exact hqueue r hr hi
  · exact hcapture a ha hi

end ArrivePriority

/-- Settles O48: the marks stay as they are, and each case of R116 is the equation of `arrivePriority` under that case's condition. -/
theorem priorityRequestIsJudgedInOrder : Obligations.PriorityRequestIsJudgedInOrder := by
  intro m k sender cause total serial arrival
  have harrival : arrival = _ := Image.arrive_priorityReq k
  rw [harrival]
  refine ⟨?halted, fun hrun => ⟨?halting, fun hgather => ⟨?full, fun hroom => ⟨?held, ?appended⟩⟩⟩⟩
  case halted =>
    intro hrun
    rw [Image.arrivePriority_halted hrun]
  case halting =>
    intro hgather
    rw [Image.arrivePriority_halting hrun hgather]
  case full =>
    intro hfull
    rw [Image.arrivePriority_full hrun hgather hfull]
  case held =>
    intro hheld
    rw [Image.arrivePriority_room hrun hgather hroom, if_pos ((m.holdsBack_iff sender).mpr hheld)]
  case appended =>
    intro hqueue hcapture
    have hnone : m.holdsBack sender = false := Image.holdsBack_eq_false hqueue hcapture
    rw [Image.arrivePriority_room hrun hgather hroom, if_neg (Bool.eq_false_iff.mp hnone)]

end Sys2Proof.Machine
end

section
/-! The CAPTURE command (R112): what the port does with it, one equation per row of the rule's table, and the statement about it. -/

namespace Sys2Proof.Machine

theorem exec_capture (total : Byte) (s : State) :
    exec (.capture total) s = .next (s.portCommand (s.takeCaptureCommand total)) := rfl

theorem exec_capture_of_portFree {s : State} (h : s.portFree) (total : Byte) :
    exec (.capture total) s = .next (s.takeCaptureCommand total) := by
  rw [exec_capture, State.portCommand_taken (State.portTakes_of_portFree h)]

/-- The statement asks whether the repeat total is the byte 0, the model whether its number is 0. -/
theorem Byte.eq_zero_iff_toNat (b : Byte) : b = 0 ↔ b.toNat = 0 := BitVec.toNat_inj.symm

section TakeCaptureCommand

variable {s : State} {total : Byte}

theorem State.takeCaptureCommand_wrongState (h : s.sc.state ≠ .member ∨ s.sc.departing = true) :
    s.takeCaptureCommand total = s.respond .wrongState [] := if_pos h

variable (hmember : s.sc.state = .member) (hstays : s.sc.departing = false)
include hmember hstays

theorem State.takeCaptureCommand_badArgument (h : total = 0 ∨ 8 < total.toNat) :
    s.takeCaptureCommand total = s.respond .badArgument [] := by
  rw [Byte.eq_zero_iff_toNat] at h
  simp [State.takeCaptureCommand, hmember, hstays, h]

/-- A post at a station that takes posts and has no request pending makes its own pending (R110). -/
theorem State.postRequest_pending (hnone : s.cb.request = none) (cause : Cause) (n : Nat) :
    s.postRequest cause n = s.setCb { s.cb with request := some (cause, n) } := by
  simp [State.postRequest, hmember, hstays, hnone]

variable (hlow : total ≠ 0) (hhigh : total.toNat ≤ 8)
include hlow hhigh

/-- With an argument of 1 to 8 the command posts a request, and the response says whether one was pending already. -/
theorem State.takeCaptureCommand_posts :
    s.takeCaptureCommand total =
      if s.cb.request.isSome then s.respond .merged [] else (s.postRequest .command total.toNat).respond .done [] := by
  rw [Ne, Byte.eq_zero_iff_toNat] at hlow
  simp [State.takeCaptureCommand, hmember, hstays, hlow, Nat.not_lt.mpr hhigh]

theorem State.takeCaptureCommand_merged (hpending : s.cb.request.isSome) :
    s.takeCaptureCommand total = s.respond .merged [] := by
  rw [State.takeCaptureCommand_posts hmember hstays hlow hhigh, if_pos hpending]

theorem State.takeCaptureCommand_done (hnone : s.cb.request = none) :
    s.takeCaptureCommand total =
      (s.setCb { s.cb with request := some (.command, total.toNat) }).respond .done [] := by
  rw [State.takeCaptureCommand_posts hmember hstays hlow hhigh, if_neg (by simp [hnone]),
    State.postRequest_pending hmember hstays hnone]

end TakeCaptureCommand

/-- Settles O13: the port takes the command, and each row of R112 is the equation of `takeCaptureCommand` under that row's condition. -/
theorem captureIsAnsweredInOrder : Obligations.CaptureIsAnsweredInOrder := by
  intro s total hfree
  rw [exec_capture_of_portFree hfree]
  refine ⟨?wrongState, fun hmember hstays => ⟨?badArgument, fun hlow hhigh => ⟨?merged, ?done⟩⟩⟩
  case wrongState =>
    intro h
    rw [State.takeCaptureCommand_wrongState h]
    rfl
  case badArgument =>
    intro h
    rw [State.takeCaptureCommand_badArgument hmember hstays h]
    rfl
  case merged =>
    intro hpending
    rw [State.takeCaptureCommand_merged hmember hstays hlow hhigh hpending]
    rfl
  case done =>
    intro hnone
    rw [State.takeCaptureCommand_done hmember hstays hlow hhigh hnone]
    rfl

end Sys2Proof.Machine
end

section
/-! Acceptance (R156): when a window matches a record, when a record is accepted, and the statement about it. -/

namespace Sys2Proof.Machine

section Accepts

variable (w : Window) (c : StationConfig) (origin : StationId) (r : Record)

/-- The kinds of a window include a record's kind when the flag of that kind is set: one flag is asked for, the other says nothing. -/
theorem Window.takes_kind_iff (k : RecordKind) :
    (if k.isRegular then w.takesRegular else w.takesPriority) = true ↔
      ((∃ entry, k = .regular entry) → w.takesRegular = true) ∧
        ((∃ q n i e, k = .priority q n i e) → w.takesPriority = true) := by
  cases k with
  | regular entry => simp [RecordKind.isRegular]
  | priority q n i e => simp [RecordKind.isRegular]

/-- The three conditions of R156, the stream number written out by R155. -/
theorem windowMatches_iff :
    windowMatches w origin r = true ↔
      w.enabled = true ∧
        ((∃ entry, r.kind = .regular entry) → w.takesRegular = true) ∧
        ((∃ q n i e, r.kind = .priority q n i e) → w.takesPriority = true) ∧
        w.base ≤ origin.val * 8 + r.channel.val ∧ origin.val * 8 + r.channel.val ≤ w.limit := by
  rw [← streamNumber]
  simp only [windowMatches, Bool.and_eq_true, decide_eq_true_eq, Window.takes_kind_iff, and_assoc]

theorem accepts_iff_exists_windowMatches :
    accepts c origin r = true ↔ ∃ k : Fin 4, windowMatches (c.windows.get k) origin r = true := by
  simp only [accepts, List.any_eq_true, Vector.mem_toList_iff, Vector.mem_iff_getElem]
  constructor
  · rintro ⟨_, ⟨i, hi, rfl⟩, hmatches⟩
    exact ⟨⟨i, hi⟩, hmatches⟩
  · rintro ⟨k, hmatches⟩
    exact ⟨_, ⟨k.val, k.isLt, rfl⟩, hmatches⟩

end Accepts

/-- Settles O20: the list of windows that the model searches holds the four windows of the statement, and each of them matches under the conditions of `windowMatches_iff`. -/
theorem recordIsAcceptedByAMatchingWindow : Obligations.RecordIsAcceptedByAMatchingWindow := by
  intro c origin r
  rw [accepts_iff_exists_windowMatches]
  exact exists_congr fun k => windowMatches_iff (c.windows.get k) origin r

end Sys2Proof.Machine
end

section
/-! The delivery halves (R158 to R164): what a close and a release do to each half, to the close order and to the counts; which half fills and which was closed first; and the statement about the close of a half. -/

namespace Sys2Proof.Machine

/-! ### States of a half -/

theorem Half.isFilling_iff {x : Half} : x.isFilling = true ↔ ∃ r a, x = .filling r a := by
  cases x <;> simp [Half.isFilling]

theorem Half.isClosed_of_isFilling {x : Half} (h : x.isFilling = true) : x.isClosed = false := by
  cases x with
  | filling r a => rfl
  | free | closed => cases h

theorem Half.isFilling_of_isClosed {x : Half} (h : x.isClosed = true) : x.isFilling = false := by
  cases x with
  | closed r n cause => rfl
  | free | filling => cases h

theorem Half.startedIfFree_of_isClosed {x : Half} (h : x.isClosed = true) : x.startedIfFree = x := by
  cases x with
  | closed r n cause => rfl
  | free | filling => cases h

/-! ### The close of a half (R161) -/

section CloseHalf

variable (d : DeliveryUnit) (h : HalfId) (cause : CloseCause)

theorem DeliveryUnit.closeHalf_get_self : (d.closeHalf h cause).get h = .closed (d.get h).records d.counter cause := by
  cases h <;> rfl

theorem DeliveryUnit.closeHalf_get_other : (d.closeHalf h cause).get h.other = (d.get h.other).startedIfFree := by
  cases h <;> rfl

theorem DeliveryUnit.closeHalf_first :
    (d.closeHalf h cause).first = if (d.get h.other).isClosed then some h.other else some h := rfl

@[simp] theorem DeliveryUnit.closeHalf_counter : (d.closeHalf h cause).counter = d.counter + 1 := rfl

@[simp] theorem DeliveryUnit.closeHalf_droppedPending : (d.closeHalf h cause).droppedPending = d.droppedPending := by
  cases h <;> rfl

@[simp] theorem DeliveryUnit.closeHalf_dropped : (d.closeHalf h cause).dropped = d.dropped := by
  cases h <;> rfl

@[simp] theorem State.closeHalf_du (s : State) : (s.closeHalf h cause).du = s.du.closeHalf h cause := rfl

theorem State.closeHalf_flag_closed (s : State) : (s.closeHalf h cause).flag .closed = true := State.flag_raise_self _ _

end CloseHalf

/-- Settles O18: the close closes the half, the half beside it stays when CLOSED and starts when FREE, and the close order follows from which of the two it is. -/
theorem closeOfHalfTakesItsActions : Obligations.CloseOfHalfTakesItsActions := by
  intro s h r a cause hfilling t
  have hdu : t.du = s.du.closeHalf h cause := State.closeHalf_du h cause s
  rw [hdu]
  refine ⟨?closes, ?counts, ?besideClosed, ?besideFree, State.closeHalf_flag_closed h cause s, ?droppedPending, ?dropped⟩
  case closes => rw [DeliveryUnit.closeHalf_get_self, hfilling, Half.records]
  case counts => exact DeliveryUnit.closeHalf_counter ..
  case besideClosed =>
    intro hclosed
    rw [DeliveryUnit.closeHalf_first, if_pos hclosed, DeliveryUnit.closeHalf_get_other, Half.startedIfFree_of_isClosed hclosed]
    exact ⟨rfl, rfl⟩
  case besideFree =>
    intro hfree
    rw [DeliveryUnit.closeHalf_first, DeliveryUnit.closeHalf_get_other, hfree]
    exact ⟨rfl, rfl⟩
  case droppedPending => exact DeliveryUnit.closeHalf_droppedPending ..
  case dropped => exact DeliveryUnit.closeHalf_dropped ..

/-! ### The release of a half (R164) -/

section ReleaseHalf

variable (d : DeliveryUnit) (h : HalfId)

theorem DeliveryUnit.releaseHalf_get_self :
    (d.releaseHalf h).get h = if (d.get h.other).isFilling then .free else .filling [] 0 := by
  cases h <;> rfl

theorem DeliveryUnit.releaseHalf_get_other : (d.releaseHalf h).get h.other = d.get h.other := by
  cases h <;> rfl

theorem DeliveryUnit.releaseHalf_first :
    (d.releaseHalf h).first = if (d.get h.other).isClosed then some h.other else none := rfl

theorem DeliveryUnit.releaseHalf_counts :
    (d.releaseHalf h).counter = d.counter ∧ (d.releaseHalf h).droppedPending = d.droppedPending ∧
      (d.releaseHalf h).dropped = d.dropped := by
  cases h <;> exact ⟨rfl, rfl, rfl⟩

/-- Beside a FILLING half the released half becomes FREE, and no half is CLOSED. -/
theorem DeliveryUnit.releaseHalf_beside_filling (hother : (d.get h.other).isFilling = true) :
    (d.releaseHalf h).get h = .free ∧ (d.releaseHalf h).first = none := by
  rw [DeliveryUnit.releaseHalf_get_self, if_pos hother, DeliveryUnit.releaseHalf_first]
  simp [Half.isClosed_of_isFilling hother]

/-- Beside a CLOSED half the released half becomes FILLING, and the half beside it is first closed. -/
theorem DeliveryUnit.releaseHalf_beside_closed (hother : (d.get h.other).isClosed = true) :
    (d.releaseHalf h).get h = .filling [] 0 ∧ (d.releaseHalf h).first = some h.other := by
  rw [DeliveryUnit.releaseHalf_get_self, DeliveryUnit.releaseHalf_first, if_pos hother]
  simp [Half.isFilling_of_isClosed hother]

end ReleaseHalf

/-! ### Which half fills, which was closed first -/

section FillingAndFirstClosed

variable {d : DeliveryUnit} {h : HalfId}

theorem DeliveryUnit.firstClosed_of_closed {r : List Delivered} {n : Word16} {cause : CloseCause} (hfirst : d.first = some h)
    (hclosed : d.get h = .closed r n cause) : d.firstClosed = some (h, r, n, cause) := by
  simp [DeliveryUnit.firstClosed, hfirst, hclosed]

theorem DeliveryUnit.firstClosed_eq_none (hnone : ∀ h r n cause, d.get h ≠ .closed r n cause) : d.firstClosed = none := by
  rw [DeliveryUnit.firstClosed]
  split
  next h _ =>
    split
    next r n cause hclosed => exact absurd hclosed (hnone h r n cause)
    all_goals rfl
  next => rfl

/-- By R158 at most one half fills. -/
theorem DeliveryUnit.wf_not_both_filling (hw : d.wf = true) (h0 : d.h0.isFilling = true) : d.h1.isFilling = false := by
  obtain ⟨r, a, hr⟩ := Half.isFilling_iff.mp h0
  cases h1 : d.h1 with
  | free | closed => rfl
  | filling q b => simp [DeliveryUnit.wf, hr, h1] at hw

theorem DeliveryUnit.filling_of_isFilling (hw : d.wf = true) (hf : (d.get h).isFilling = true) : d.filling = some h := by
  cases h with
  | h0 => exact if_pos hf
  | h1 =>
    have h0 : d.h0.isFilling ≠ true := fun h0 => by
      rw [DeliveryUnit.get, DeliveryUnit.wf_not_both_filling hw h0] at hf
      cases hf
    rw [DeliveryUnit.filling, if_neg h0]
    exact if_pos hf

theorem DeliveryUnit.filling_of_get {r : List Delivered} {a : Nat} (hw : d.wf = true) (hget : d.get h = .filling r a) :
    d.filling = some h :=
  DeliveryUnit.filling_of_isFilling hw (Half.isFilling_iff.mpr ⟨r, a, hget⟩)

theorem DeliveryUnit.filling_eq_none (hnone : ∀ h r a, d.get h ≠ .filling r a) : d.filling = none := by
  cases hf : d.filling with
  | none => rfl
  | some h =>
    obtain ⟨r, a, hr⟩ := Half.isFilling_iff.mp (DeliveryUnit.filling_isFilling hf)
    exact absurd hr (hnone h r a)

end FillingAndFirstClosed

end Sys2Proof.Machine
end

section
/-! The RELEASE command (R164): what the port does with it, one equation per row of the rule's table, and the statement about it. -/

namespace Sys2Proof.Machine

theorem exec_release_of_portFree {s : State} (h : s.portFree) (q : Word16) :
    exec (.release q) s = .next (s.releaseFirst q) :=
  congrArg Host.Outcome.next (State.portCommand_taken (State.portTakes_of_portFree h) _)

section ReleaseFirst

variable {s : State}

theorem State.releaseFirst_noneClosed (hnone : ∀ h r n cause, s.du.get h ≠ .closed r n cause) (q : Word16) :
    s.releaseFirst q = s.respond .noneClosed [] := by
  simp [State.releaseFirst, DeliveryUnit.firstClosed_eq_none hnone]

variable {h : HalfId} {r : List Delivered} {n : Word16} {cause : CloseCause} (hfirst : s.du.first = some h)
  (hclosed : s.du.get h = .closed r n cause)
include hfirst hclosed

theorem State.releaseFirst_badArgument {q : Word16} (hq : q ≠ n) : s.releaseFirst q = s.respond .badArgument [] := by
  simp [State.releaseFirst, DeliveryUnit.firstClosed_of_closed hfirst hclosed, hq]

theorem State.releaseFirst_done : s.releaseFirst n = (s.setDu (s.du.releaseHalf h)).respond .done [] := by
  simp [State.releaseFirst, DeliveryUnit.firstClosed_of_closed hfirst hclosed]

end ReleaseFirst

/-- Settles O11: the port takes the command, each row of R164 is the equation of `releaseFirst` under that row's condition, and the delivery unit after a release is the one of `releaseHalf`. -/
theorem releaseFreesFirstClosedHalf : Obligations.ReleaseFreesFirstClosedHalf := by
  intro s q hfree _
  rw [exec_release_of_portFree hfree]
  refine ⟨?noneClosed, fun h r n cause hfirst hclosed => ⟨?badArgument, ?done⟩⟩
  case noneClosed =>
    intro hnone
    rw [State.releaseFirst_noneClosed hnone]
    rfl
  case badArgument =>
    intro hq
    rw [State.releaseFirst_badArgument hfirst hclosed hq]
    rfl
  case done =>
    rintro rfl
    rw [State.releaseFirst_done hfirst hclosed]
    exact ⟨s.du.releaseHalf h, rfl, DeliveryUnit.releaseHalf_get_other _ h, DeliveryUnit.releaseHalf_beside_filling _ h,
      DeliveryUnit.releaseHalf_beside_closed _ h, DeliveryUnit.releaseHalf_counts _ h⟩

end Sys2Proof.Machine
end

section
/-! The CLOSE command (R163): what the port does with it, one equation per row of the rule's table, and the statement about it. -/

namespace Sys2Proof.Machine

theorem exec_close_of_portFree {s : State} (h : s.portFree) : exec .close s = .next s.closeFilling :=
  congrArg Host.Outcome.next (State.portCommand_taken (State.portTakes_of_portFree h) _)

section CloseFilling

variable {s : State} {h : HalfId} {r : List Delivered} {a : Nat}

theorem State.closeFilling_done (hw : s.du.wf = true) (hfilling : s.du.get h = .filling r a) (hne : r ≠ []) :
    s.closeFilling = (s.closeHalf h .command).respond .done [] := by
  simp [State.closeFilling, DeliveryUnit.filling_of_get hw hfilling, hfilling, Half.records, hne]

theorem State.closeFilling_empty (hw : s.du.wf = true) (hfilling : s.du.get h = .filling [] a) :
    s.closeFilling = s.respond .empty [] := by
  simp [State.closeFilling, DeliveryUnit.filling_of_get hw hfilling, hfilling, Half.records]

theorem State.closeFilling_noneFilling (hnone : ∀ h r a, s.du.get h ≠ .filling r a) :
    s.closeFilling = s.respond .noneFilling [] := by
  simp [State.closeFilling, DeliveryUnit.filling_eq_none hnone]

end CloseFilling

/-- Settles O12: the port takes the command, and each row of R163 is the equation of `closeFilling` under that row's condition. In the row DONE the flag of the close and the response meet in one write of the port. -/
theorem closeClosesFillingHalf : Obligations.CloseClosesFillingHalf := by
  intro s hfree hw
  rw [exec_close_of_portFree hfree]
  refine ⟨?done, ?empty, ?noneFilling⟩
  case done =>
    intro h r a hfilling hne
    rw [State.closeFilling_done hw hfilling hne]
    rfl
  case empty =>
    intro h a hfilling
    rw [State.closeFilling_empty hw hfilling]
    rfl
  case noneFilling =>
    intro hnone
    rw [State.closeFilling_noneFilling hnone]
    rfl

end Sys2Proof.Machine
end

section
/-! The EVENTS command (R172): what the port does with it, and the statement about it. -/

namespace Sys2Proof.Machine

theorem exec_events_of_portFree {s : State} (h : s.portFree) :
    exec .events s = .next ((s.setCp { s.cp with flags := 0 }).respond .done (bytesOf16 s.cp.flags)) :=
  congrArg Host.Outcome.next (State.portCommand_taken (State.portTakes_of_portFree h) _)

/-- Settles O8: the port takes the command, and the cleared flags and the response that shows them meet in one write of the port. -/
theorem eventsShowsAndClearsFlags : Obligations.EventsShowsAndClearsFlags := by
  intro s hfree
  rw [exec_events_of_portFree hfree, State.respond, State.setCp_setCp, bytesOf16]
  rfl

end Sys2Proof.Machine
end

section
/-! What every command leaves unchanged: the alert mask under each operation, the state that a command leaves, the blocks that each command may write, and the statements about the step. -/

open Sys2Proof

namespace Sys2Proof.Machine

/-! ### The alert mask (R174): no operation but a reset and a good load writes it -/

section AlertMask

variable (s : State)

@[simp] theorem State.refuse_mask (reason : RefusalReason) (serial : Byte) :
    (s.refuse reason serial).cp.mask = s.cp.mask := by simp [State.refuse]

@[simp] theorem State.enterFault_mask (reason : FaultReason) : (s.enterFault reason).cp.mask = s.cp.mask := by
  unfold State.enterFault
  split <;> simp

@[simp] theorem State.judgeJoin_mask (c : StationConfig) (now : Instant) : (s.judgeJoin c now).cp.mask = s.cp.mask := by
  unfold State.judgeJoin
  (repeat' split) <;> simp

@[simp] theorem State.windowOpens_mask (c : StationConfig) (now : Instant) : (s.windowOpens c now).cp.mask = s.cp.mask := by
  unfold State.windowOpens
  dsimp only
  split <;> simp

@[simp] theorem State.movePointer_mask (c : StationConfig) (now : Instant) (p : Nat) :
    (s.movePointer c now p).cp.mask = s.cp.mask := by
  unfold State.movePointer
  dsimp only
  split <;> simp

@[simp] theorem State.failAttempt_mask (c : StationConfig) (now : Instant) : (s.failAttempt c now).cp.mask = s.cp.mask := by
  unfold State.failAttempt
  (repeat' split) <;> simp

@[simp] theorem State.trackedCycleEnd_mask (c : StationConfig) (now : Instant) (emptied : Bool) (m' : Image) :
    (s.trackedCycleEnd c now emptied m').cp.mask = s.cp.mask := by
  unfold State.trackedCycleEnd
  dsimp only
  (repeat' split) <;> simp

@[simp] theorem State.leftByLeave_mask : s.leftByLeave.cp.mask = s.cp.mask := by simp [State.leftByLeave]

@[simp] theorem State.evicted_mask (c : StationConfig) (now : Instant) :
    (s.evicted c now).cp.mask = s.cp.mask := by simp [State.evicted]

@[simp] theorem State.reportHalt_mask (change : HaltChange) : (s.reportHalt change).cp.mask = s.cp.mask := by
  unfold State.reportHalt
  split <;> simp

@[simp] theorem State.reportEpoch_mask (before after : Word16) : (s.reportEpoch before after).cp.mask = s.cp.mask := by
  unfold State.reportEpoch
  split <;> simp

@[simp] theorem State.staysMember_mask (c : StationConfig) (now : Instant) (m after : Image) (change : HaltChange) :
    (s.staysMember c now m after change).cp.mask = s.cp.mask := by simp [State.staysMember]

@[simp] theorem State.memberCycleEnd_mask (c : StationConfig) (now : Instant) (m m' : Image) :
    (s.memberCycleEnd c now m m').cp.mask = s.cp.mask := by
  unfold State.memberCycleEnd
  dsimp only
  (repeat' split) <;> simp

@[simp] theorem State.closeHalf_mask (h : HalfId) (cause : CloseCause) :
    (s.closeHalf h cause).cp.mask = s.cp.mask := by simp [State.closeHalf]

@[simp] theorem State.placeIn_mask (h : HalfId) (origin : StationId) (r : Record) :
    (s.placeIn h origin r).cp.mask = s.cp.mask := by
  unfold State.placeIn
  dsimp only
  split <;> simp

@[simp] theorem State.dropRecord_mask : s.dropRecord.cp.mask = s.cp.mask := by simp [State.dropRecord]

@[simp] theorem State.deliver_mask (origin : StationId) (r : Record) : (s.deliver origin r).cp.mask = s.cp.mask := by
  unfold State.deliver
  split <;> simp

@[simp] theorem State.handOver_mask (c : StationConfig) (origin : StationId) (records : List Record) :
    (s.handOver c origin records).cp.mask = s.cp.mask := by
  unfold State.handOver
  generalize records.filter (accepts c origin) = l
  induction l generalizing s with
  | nil => rfl
  | cons r l ih => simp [ih]

@[simp] theorem State.ageHalf_mask (c : StationConfig) : (s.ageHalf c).cp.mask = s.cp.mask := by
  unfold State.ageHalf
  dsimp only
  (repeat' split) <;> simp

@[simp] theorem State.cycleEnd_mask (c : StationConfig) (now : Instant) : (s.cycleEnd c now).cp.mask = s.cp.mask := by
  unfold State.cycleEnd
  dsimp only
  (repeat' split) <;> simp

@[simp] theorem State.reportItem_mask (own sender : StationId) (effect : ItemEffect) :
    (s.reportItem own sender effect).cp.mask = s.cp.mask := by
  unfold State.reportItem
  (repeat' split) <;> simp

@[simp] theorem State.applyItem_mask (own sender : StationId) (item : Item) :
    (s.applyItem own sender item).cp.mask = s.cp.mask := by
  unfold State.applyItem
  dsimp only
  (repeat' split) <;> simp

@[simp] theorem State.applyItems_mask (own sender : StationId) (items : List Item) :
    (s.applyItems own sender items).cp.mask = s.cp.mask := by
  unfold State.applyItems
  induction items generalizing s with
  | nil => rfl
  | cons i l ih => simp [ih]

@[simp] theorem State.reportLostRequest_mask (own : StationId) (copy summary : Image) :
    (s.reportLostRequest own copy summary).cp.mask = s.cp.mask := by
  unfold State.reportLostRequest
  (repeat' split) <;> simp

@[simp] theorem State.reportHaltAdopted_mask (copy summary : Image) :
    (s.reportHaltAdopted copy summary).cp.mask = s.cp.mask := by
  unfold State.reportHaltAdopted
  (repeat' split) <;> simp

@[simp] theorem State.reportDiverged_mask (own : StationId) (copy : Option Image) (summary : Image) :
    (s.reportDiverged own copy summary).cp.mask = s.cp.mask := by
  unfold State.reportDiverged
  (repeat' split) <;> simp

@[simp] theorem State.reportAdopted_mask (copy : Option Image) (summary : Image) :
    (s.reportAdopted copy summary).cp.mask = s.cp.mask := by
  unfold State.reportAdopted
  split <;> simp

@[simp] theorem State.adopt_mask (c : StationConfig) (now : Instant) (closing : Bool) (sender : StationId) (summary : Image) :
    (s.adopt c now closing sender summary).cp.mask = s.cp.mask := by simp [State.adopt]

@[simp] theorem State.evictedByAdoption_mask (c : StationConfig) (now : Instant) (closing : Bool) (sender : StationId) (summary : Image) :
    (s.evictedByAdoption c now closing sender summary).cp.mask = s.cp.mask := by simp [State.evictedByAdoption]

@[simp] theorem State.yieldTo_mask (c : StationConfig) (now : Instant) (closing : Bool) (sender : StationId) (summary : Image) :
    (s.yieldTo c now closing sender summary).cp.mask = s.cp.mask := by simp [State.yieldTo]

@[simp] theorem State.confirmJoin_mask (c : StationConfig) (now : Instant) (closing known : Bool) (sender : StationId) (summary : Image) :
    (s.confirmJoin c now closing known sender summary).cp.mask = s.cp.mask := by simp [State.confirmJoin]

@[simp] theorem State.memberSummary_mask (c : StationConfig) (now : Instant) (closing : Bool) (sender : StationId) (summary m : Image) :
    (s.memberSummary c now closing sender summary m).1.cp.mask = s.cp.mask := by
  unfold State.memberSummary
  (repeat' split) <;> simp

@[simp] theorem State.takeSummary_mask (c : StationConfig) (now : Instant) (closing : Bool) (sender : StationId) (summary : Image) :
    (s.takeSummary c now closing sender summary).1.cp.mask = s.cp.mask := by
  unfold State.takeSummary
  (repeat' split) <;> simp

@[simp] theorem State.receiveError_mask : s.receiveError.cp.mask = s.cp.mask := by simp [State.receiveError]

@[simp] theorem State.settle_mask (c : StationConfig) (now : Instant) (closing : Bool) (timing : Timing) :
    (s.settle c now closing timing).cp.mask = s.cp.mask := by
  unfold State.settle
  (repeat' split) <;> simp

@[simp] theorem State.listedBeat_mask (c : StationConfig) (m : Image) (p : Nat) (outcome : SummaryOutcome) (b : Beat) :
    (s.listedBeat c m p outcome b).cp.mask = s.cp.mask := by
  unfold State.listedBeat
  dsimp only
  (repeat' split) <;> simp

@[simp] theorem State.soundBeat_mask (c : StationConfig) (now : Instant) (closing : Bool) (b : Beat) :
    (s.soundBeat c now closing b).state.cp.mask = s.cp.mask := by
  unfold State.soundBeat
  cases b.summary <;> dsimp only <;> (repeat' split) <;> simp

@[simp] theorem State.ownFrameEnd_mask (c : StationConfig) : (s.ownFrameEnd c).state.cp.mask = s.cp.mask := by
  unfold State.ownFrameEnd
  (repeat' split) <;> simp [State.ownBeatEnd]

@[simp] theorem State.classify_mask (c : StationConfig) (now : Instant) (closing inWindow : Bool) (line : List Bool) :
    (s.classify c now closing inWindow line).state.cp.mask = s.cp.mask := by
  unfold State.classify
  (repeat' split) <;> simp [State.clashed]

@[simp] theorem State.closeWindow_mask (c : StationConfig) (now : Instant) (origin : StationId) (records : List Record) :
    (s.closeWindow c now origin records).cp.mask = s.cp.mask := by
  unfold State.closeWindow
  dsimp only
  (repeat' split) <;> simp

@[simp] theorem State.frameEnd_mask (c : StationConfig) (now : Instant) (line : List Bool) (inWindow : Bool) :
    (s.frameEnd c now line inWindow).cp.mask = s.cp.mask := by
  unfold State.frameEnd State.finish
  dsimp only
  (repeat' split) <;> simp

@[simp] theorem State.judgeRange_mask (c : StationConfig) (channel : Channel) (outOfRange : Bool) :
    (s.judgeRange c channel outOfRange).cp.mask = s.cp.mask := by
  unfold State.judgeRange
  dsimp only
  (repeat' split) <;> simp

@[simp] theorem State.resultOf_mask (c : StationConfig) (v : Conversion) (raw : Sample) :
    (s.resultOf c v raw).cp.mask = s.cp.mask := by
  unfold State.resultOf
  split <;> simp

@[simp] theorem State.found_mask (c : StationConfig) (now : Instant) :
    (s.found c now).cp.mask = s.cp.mask := by simp [State.found]

@[simp] theorem State.readHalf_mask (start : Byte) : (s.readHalf start).cp.mask = s.cp.mask := by
  unfold State.readHalf
  dsimp only
  (repeat' split) <;> simp

@[simp] theorem State.releaseFirst_mask (sequence : Word16) : (s.releaseFirst sequence).cp.mask = s.cp.mask := by
  unfold State.releaseFirst
  (repeat' split) <;> simp

@[simp] theorem State.closeFilling_mask : s.closeFilling.cp.mask = s.cp.mask := by
  unfold State.closeFilling
  (repeat' split) <;> simp

@[simp] theorem State.takeCaptureCommand_mask (total : Byte) : (s.takeCaptureCommand total).cp.mask = s.cp.mask := by
  unfold State.takeCaptureCommand
  (repeat' split) <;> simp

@[simp] theorem State.takeHalt_mask : s.takeHalt.cp.mask = s.cp.mask := by
  unfold State.takeHalt
  (repeat' split) <;> simp

@[simp] theorem State.takeResume_mask : s.takeResume.cp.mask = s.cp.mask := by
  unfold State.takeResume
  (repeat' split) <;> simp

@[simp] theorem State.takeJoin_mask (now : Instant) : (s.takeJoin now).cp.mask = s.cp.mask := by
  unfold State.takeJoin
  (repeat' split) <;> simp

@[simp] theorem State.takeLeaveCommand_mask : s.takeLeaveCommand.cp.mask = s.cp.mask := by
  unfold State.takeLeaveCommand
  (repeat' split) <;> simp

end AlertMask

/-! ### FAULT at a station that was not MEMBER -/

/-- Only a MEMBER meets the effects of R81 on its way to FAULT. -/
theorem State.enterFault_of_not_member {s : State} (h : s.sc.state ≠ .member) (reason : FaultReason) :
    s.enterFault reason =
      (s.offTrunk.setSc { s.sc with state := .fault, faultReason := some reason, holdoff := none, founding := none,
                                    deferredLeave := false }).raise .fault := by
  simp [State.enterFault, h]

/-- R68 is judged in LISTEN, so it discards nothing of a MEMBER's. -/
theorem State.judgeJoin_unchanged_of_listen {s : State} (h : s.sc.state = .listen) (c : StationConfig) (now : Instant) :
    (s.judgeJoin c now).cb = s.cb ∧ (s.judgeJoin c now).sq = s.sq ∧ (s.judgeJoin c now).rt = s.rt ∧
      (s.judgeJoin c now).halt = s.halt := by
  have hnot : s.sc.state ≠ .member := by simp [h]
  unfold State.judgeJoin
  (repeat' split) <;> simp [State.enterFault_of_not_member hnot]

/-- The opening of the join window leaves pending set, converter, record transport and halt report (R29, R67). -/
@[simp] theorem State.windowOpens_blocks_unchanged (s : State) (c : StationConfig) (now : Instant) :
    (s.windowOpens c now).cb = s.cb ∧ (s.windowOpens c now).sq = s.sq ∧ (s.windowOpens c now).rt = s.rt ∧
      (s.windowOpens c now).halt = s.halt := by
  unfold State.windowOpens
  dsimp only
  split
  · simp [State.judgeJoin_unchanged_of_listen ‹_›]
  · simp

@[simp] theorem State.movePointer_blocks_unchanged (s : State) (c : StationConfig) (now : Instant) (p : Nat) :
    (s.movePointer c now p).sq = s.sq ∧ (s.movePointer c now p).halt = s.halt := by
  unfold State.movePointer
  dsimp only
  split <;> simp

/-! ### The state that a command leaves -/

/-- Every command answers a next state; this is it. -/
def State.after (s : State) (i : Instr) : State :=
  match exec i s with
  | .next t => t
  | .fault _ | .refused _ => s

theorem exec_eq_next (i : Instr) (s : State) : exec i s = .next (s.after i) := by cases i <;> rfl

theorem State.after_of_exec {i : Instr} {s t : State} (h : exec i s = .next t) : s.after i = t := by simp [State.after, h]

/-- What holds of a state and of what a configured operation makes of it holds of the outcome: without a configuration nothing runs (R187). -/
theorem State.configured_keeps {P : State → Prop} {s : State} {f : StationConfig → State} (hs : P s)
    (hf : ∀ c, s.cfg = some c → P (f c)) : P (s.configured f) := by
  cases hc : s.cfg with
  | none => rwa [State.configured_none hc]
  | some c =>
    rw [State.configured_some hc]
    exact hf c hc

/-- What holds of a state and of a command's effect holds of the outcome, whether or not the port takes the command. -/
theorem State.portCommand_keeps {P : State → Prop} {s effect : State} (hs : P s) (he : P effect) : P (s.portCommand effect) := by
  unfold State.portCommand
  split
  · exact he
  · exact hs

end Sys2Proof.Machine
end

section
/-! What each command may write, block by block; a step, and what holds along steps; and the statements about them. -/

open Sys2Proof

namespace Sys2Proof.Machine

/-- Settles O1. -/
theorem stepRunsFrontCommand : Obligations.StepRunsFrontCommand := by
  intro c s rest hqueue
  simp only [step, hqueue]

/-- On an empty queue the step is the end of the arbitration field, or nothing (log 4). -/
theorem step_of_empty {s : State} (h : s.pending = []) : step s = .next s.idleStep := by simp only [step, h]

/-- Settles O2. The commands are taken family by family, as the dispatch lists them: in each, every branch of the meaning is an operation whose law says what it leaves unchanged, or the state itself. -/
theorem everyStepAnswersANextState : Obligations.EveryStepAnswersANextState := by
  refine ⟨fun c s => ⟨s.after c, exec_eq_next c s, ?blocks⟩, fun s hempty => ⟨fun h => ?idle, fun h => ?arbitrated⟩⟩
  case blocks =>
    cases c with
    | powerOn | resetnLow | selectRelease | powerOnDelayExpiry | resetnRise =>
      simp only [State.after, exec, execPowerOn, execPowerOnDelayExpiry, execResetnLow, execResetnRise, execSelectRelease,
        State.resetBy]
      (repeat' split) <;> simp
    | busClear | addressByte | imageByte | loadTimeout | checking =>
      simp only [State.after, exec, execBusClear, execAddressByte, execImageByte, execLoadTimeout, execChecking]
      (repeat' split) <;> simp
    | frameStart | frameEnd | frameBegin =>
      simp only [State.after, exec, execFrameStart, execFrameEnd, execFrameBegin, State.configured]
      (repeat' split) <;> simp
    | arbitrationLoss | readbackMismatch | abortMarkEnd | startGuardExpiry =>
      simp only [State.after, exec, execArbitrationLoss, execReadbackMismatch, execAbortMarkEnd, execStartGuardExpiry]
      (repeat' split) <;> simp
    | slotPasses | joinWindowTimerExpiry | cycleOpening =>
      simp only [State.after, exec, execSlotPasses, execJoinWindowTimerExpiry, execCycleOpening, State.configured]
      (repeat' split) <;> simp
    | phase | conversionComplete | trigRisingEdge =>
      simp only [State.after, exec, execPhase, execConversionComplete, execTrigRisingEdge, State.configured]
      (repeat' split) <;> simp
    | foundingTimerExpiry | holdoffExpiry =>
      simp only [State.after, exec, execFoundingTimerExpiry, execHoldoffExpiry, State.configured]
      (repeat' split) <;> simp
    | status | events | roster | read | release | close | unknown | reset =>
      simp only [State.after, exec, execStatus, execEvents, execRoster, execRead, execRelease, execClose, execUnknown, execReset,
        State.portCommand]
      split <;> simp
    | capture | halt | resumeCommand | join | leave =>
      simp only [State.after, exec, execCapture, execHalt, execResumeCommand, execJoin, execLeave, State.portCommand]
      split <;> simp
  case idle => rw [step_of_empty hempty, State.idleStep, if_neg h]
  case arbitrated => rw [step_of_empty hempty, State.idleStep, if_pos h]

/-- The induction along steps: what the queue does not show, what the end of the arbitration field keeps and what every command keeps holds after every step. -/
theorem step_keeps {P : State → Prop} (hqueue : ∀ s rest, P s → P (s.setPending rest)) (hidle : ∀ s, P s → P s.idleStep)
    (hcommand : ∀ s i, P s → P (s.after i)) {s t : State} (hs : P s) (h : step s = .next t) : P t := by
  cases hp : s.pending with
  | nil =>
    rw [step_of_empty hp] at h
    cases h
    exact hidle s hs
  | cons i rest =>
    rw [stepRunsFrontCommand i s rest hp, exec_eq_next] at h
    cases h
    exact hcommand _ i (hqueue s rest hs)

/-- Settles O25: a post is taken by a MEMBER that does not depart and has no request pending, and by nobody else. -/
theorem trigPostsAndHoldoffStops : Obligations.TrigPostsAndHoldoffStops := by
  intro s c hcfg
  have htrig : exec .trigRisingEdge s = .next (s.postRequest .external c.externalTotal) :=
    congrArg Host.Outcome.next (State.configured_some hcfg _)
  rw [htrig]
  refine ⟨?posts, ?ignored, rfl⟩
  case posts =>
    intro hmember hstays hnone
    rw [State.postRequest_pending hmember hstays hnone]
  case ignored =>
    intro h
    unfold State.postRequest
    split
    next htaken =>
      cases hr : s.cb.request with
      | none => simp [htaken, hr] at h
      | some r => rfl
    next => rfl

end Sys2Proof.Machine
end

section
/-! The law of the halves (R158): every operation on them keeps it, and with them every step. -/

open Sys2Proof

namespace Sys2Proof.Machine

/-- The cycle end of an image ages the FILLING half, and nothing else of it reaches the halves (R32, R162). -/
theorem State.cycleEnd_du {s : State} {m : Image} (hm : s.iu.image = some m) (c : StationConfig) (now : Instant) :
    (s.cycleEnd c now).du = (s.ageHalf c).du := by
  unfold State.cycleEnd
  rw [hm]
  dsimp only
  split <;> simp

theorem State.cycleEnd_of_no_image {s : State} (hm : s.iu.image = none) (c : StationConfig) (now : Instant) :
    s.cycleEnd c now = s := by
  simp only [State.cycleEnd, hm]

theorem DeliveryUnit.get_of_firstClosed {d : DeliveryUnit} {h : HalfId} {r : List Delivered} {n : Word16} {cause : CloseCause}
    (hfirst : d.firstClosed = some (h, r, n, cause)) : d.get h = .closed r n cause := by
  unfold DeliveryUnit.firstClosed at hfirst
  split at hfirst
  · split at hfirst
    · cases hfirst
      assumption
    all_goals cases hfirst
  · cases hfirst

theorem DeliveryUnit.set_get (d : DeliveryUnit) (h : HalfId) : d.set h (d.get h) = d := by
  cases h <;> rfl

section HalvesLaw

variable {s : State} (hw : s.du.wf = true)
include hw

theorem State.cycleEnd_du_wf (c : StationConfig) (now : Instant) : (s.cycleEnd c now).du.wf = true := by
  cases hm : s.iu.image with
  | none => rwa [State.cycleEnd_of_no_image hm]
  | some m =>
    rw [State.cycleEnd_du hm]
    exact State.ageHalf_wf hw c

/-- Whichever comes first, the records or the cycle end, both keep the law (R162). -/
theorem State.closeWindow_du_wf (c : StationConfig) (now : Instant) (origin : StationId) (records : List Record) :
    (s.closeWindow c now origin records).du.wf = true := by
  have hdrawn : (s.setFree (s.free + 1)).du.wf = true := hw
  unfold State.closeWindow
  split
  · dsimp only
    split
    · exact State.cycleEnd_du_wf (State.handOver_wf hdrawn c origin records) c now
    · exact State.handOver_wf (State.cycleEnd_du_wf hdrawn c now) c origin records
  · exact State.cycleEnd_du_wf hw c now

theorem State.finish_du_wf (c : StationConfig) (now : Instant) (closing : Bool) (origin : StationId) (records : List Record) :
    (s.finish c now closing origin records).du.wf = true := by
  unfold State.finish
  split
  · exact State.closeWindow_du_wf hw c now origin records
  · exact State.handOver_wf hw c origin records

theorem State.frameEnd_du_wf (c : StationConfig) (now : Instant) (line : List Bool) (inWindow : Bool) :
    (s.frameEnd c now line inWindow).du.wf = true := by
  apply State.finish_du_wf
  split <;> simpa using hw

theorem State.releaseFirst_du_wf (sequence : Word16) : (s.releaseFirst sequence).du.wf = true := by
  cases hfirst : s.du.firstClosed with
  | none => simpa [State.releaseFirst, hfirst] using hw
  | some first =>
    obtain ⟨h, r, n, cause⟩ := first
    have hclosed : (s.du.get h).isClosed = true := by rw [DeliveryUnit.get_of_firstClosed hfirst, Half.isClosed]
    simp only [State.releaseFirst, hfirst]
    split
    · simpa using DeliveryUnit.releaseHalf_wf hw hclosed
    · simpa using hw

theorem State.closeFilling_du_wf : s.closeFilling.du.wf = true := by
  cases hf : s.du.filling with
  | none => simpa [State.closeFilling, hf] using hw
  | some h =>
    obtain ⟨r, a, hr⟩ := Half.isFilling_iff.mp (DeliveryUnit.filling_isFilling hf)
    cases r with
    | nil => simpa [State.closeFilling, hf, hr, Half.records] using hw
    | cons x l =>
      have hlaw := DeliveryUnit.filling_bounds hw hf
      have hclose := DeliveryUnit.closeHalf_wf (r := x :: l) (a := a) hw (DeliveryUnit.filling_isFilling hf) (by simp)
        (by simp only [hr, Half.records] at hlaw; omega) .command s.du.droppedPending
      rw [← hr, DeliveryUnit.set_get] at hclose
      simpa [State.closeFilling, hf, hr, Half.records] using hclose

end HalvesLaw

/-- Every command keeps the law of the halves: those of the delivery unit by its own laws, and the others leave the unit as it is (O2). -/
theorem State.after_du_wf {s : State} (hw : s.du.wf = true) (i : Instr) : (s.after i).du.wf = true := by
  obtain ⟨t, ht, -, -, -, hdu, -⟩ := everyStepAnswersANextState.1 i s
  rw [State.after_of_exec ht]
  cases i with
  | powerOn | resetnLow => cases ht; exact DeliveryUnit.afterReset_wf
  | selectRelease now => 
    cases ht
    split
    · exact DeliveryUnit.afterReset_wf
    · exact hw
  | frameEnd now line => 
    cases ht
    refine State.configured_keeps (P := fun s => s.du.wf = true) hw fun c _ => ?_
    (repeat' split)
    · exact State.frameEnd_du_wf hw c now line _
    all_goals exact hw
  | joinWindowTimerExpiry => 
    cases ht
    refine State.configured_keeps (P := fun s => s.du.wf = true) hw fun c _ => ?_
    split
    · exact State.cycleEnd_du_wf hw c _
    · exact hw
  | release sequence => 
    cases ht
    exact State.portCommand_keeps (P := fun s => s.du.wf = true) hw (State.releaseFirst_du_wf hw sequence)
  | close => 
    cases ht
    exact State.portCommand_keeps (P := fun s => s.du.wf = true) hw (State.closeFilling_du_wf hw)
  | _ => rwa [hdu]

/-- Settles O55. -/
theorem everyStepKeepsTheHalvesLaw : Obligations.EveryStepKeepsTheHalvesLaw := by
  intro s t hw
  refine step_keeps (P := fun s => s.du.wf = true) (fun _ _ h => h) (fun s h => ?_) (fun s i h => State.after_du_wf h i) hw
  simpa using h

end Sys2Proof.Machine
end

section
/-! The law of the record transport (R145): every operation keeps it, and with them every step. -/

open Sys2Proof

namespace Sys2Proof.Machine

/-- What a frame end keeps: what each of its parts keeps, in the order of log 12. -/
theorem State.frameEnd_keeps {P : State → Prop} {s : State} {c : StationConfig} {now : Instant} {line : List Bool}
    {inWindow : Bool} (ended : P (s.setTi { s.ti with receiving := none }).abandonArmedJoin)
    (own : ∀ u, P u → P (u.ownFrameEnd c).state)
    (received : ∀ u closing, P u → P (u.classify c now closing inWindow line).state)
    (settled : ∀ u closing timing, P u → P (u.settle c now closing timing)) (refreshed : ∀ u, P u → P u.refreshArmed)
    (left : ∀ u, P u → P u.takeDeferredLeave)
    (finished : ∀ u closing origin records, P u → P (u.finish c now closing origin records)) :
    P (s.frameEnd c now line inWindow) := by
  unfold State.frameEnd
  refine finished _ _ _ _ (left _ (refreshed _ (settled _ _ _ ?_)))
  split
  · exact own _ ended
  · exact received _ _ ended

section DepartedTransport

variable (s : State)

@[simp] theorem State.leaveMember_rt_wf : s.leaveMember.rt.wf := by
  simp -implicitDefEqProofs [State.leaveMember, RecordTransport.discarded_wf]

@[simp] theorem State.leftByLeave_rt_wf : s.leftByLeave.rt.wf := by
  simp -implicitDefEqProofs [State.leftByLeave]

@[simp] theorem State.evicted_rt_wf (c : StationConfig) (now : Instant) : (s.evicted c now).rt.wf := by
  simp -implicitDefEqProofs [State.evicted]

@[simp] theorem State.evictedByAdoption_rt_wf (c : StationConfig) (now : Instant) (closing : Bool) (sender : StationId)
    (summary : Image) :
    (s.evictedByAdoption c now closing sender summary).rt.wf := by
  simp -implicitDefEqProofs [State.evictedByAdoption]

@[simp] theorem State.yieldTo_rt_wf (c : StationConfig) (now : Instant) (closing : Bool) (sender : StationId)
    (summary : Image) :
    (s.yieldTo c now closing sender summary).rt.wf := by
  simp -implicitDefEqProofs [State.yieldTo]

end DepartedTransport

section TransportLaw

variable {s : State} (h : s.rt.wf)
include h

@[simp] theorem State.enterFault_rt_wf (reason : FaultReason) : (s.enterFault reason).rt.wf := by
  unfold State.enterFault
  split <;> simp -implicitDefEqProofs [h]

@[simp] theorem State.assembleBeat_rt_wf (c : StationConfig) (now : Instant) : (s.assembleBeat c now).rt.wf := by
  unfold State.assembleBeat
  (repeat' split) <;> simp -implicitDefEqProofs [h, RecordTransport.repacked_wf]

@[simp] theorem State.slotBegins_rt_wf (c : StationConfig) (now : Instant) : (s.slotBegins c now).rt.wf := by
  unfold State.slotBegins
  dsimp only
  (repeat' split) <;> simp -implicitDefEqProofs [h]

@[simp] theorem State.movePointer_rt_wf (c : StationConfig) (now : Instant) (p : Nat) : (s.movePointer c now p).rt.wf := by
  unfold State.movePointer
  dsimp only
  split <;> simp -implicitDefEqProofs [h]

@[simp] theorem State.openCycle_rt_wf (c : StationConfig) (now : Instant) (byFrame : Bool) :
    (s.openCycle c now byFrame).rt.wf := by
  unfold State.openCycle
  split <;> simp -implicitDefEqProofs [h]

@[simp] theorem State.timerCycleEnd_rt_wf (c : StationConfig) (now : Instant) : (s.timerCycleEnd c now).rt.wf := by
  unfold State.timerCycleEnd
  (repeat' split) <;> simp -implicitDefEqProofs [h]

@[simp] theorem State.failAttempt_rt_wf (c : StationConfig) (now : Instant) : (s.failAttempt c now).rt.wf := by
  unfold State.failAttempt
  (repeat' split) <;> simp -implicitDefEqProofs [h]

@[simp] theorem State.trackedCycleEnd_rt_wf (c : StationConfig) (now : Instant) (emptied : Bool) (m' : Image) :
    (s.trackedCycleEnd c now emptied m').rt.wf := by
  unfold State.trackedCycleEnd
  dsimp only
  (repeat' split) <;> simp -implicitDefEqProofs [h]

@[simp] theorem State.staysMember_rt_wf (c : StationConfig) (now : Instant) (m after : Image) (change : HaltChange) :
    (s.staysMember c now m after change).rt.wf := by
  simp -implicitDefEqProofs [State.staysMember, h]

@[simp] theorem State.memberCycleEnd_rt_wf (c : StationConfig) (now : Instant) (m m' : Image) :
    (s.memberCycleEnd c now m m').rt.wf := by
  unfold State.memberCycleEnd
  dsimp only
  (repeat' split) <;> simp -implicitDefEqProofs [h]

@[simp] theorem State.cycleEnd_rt_wf (c : StationConfig) (now : Instant) : (s.cycleEnd c now).rt.wf := by
  unfold State.cycleEnd
  dsimp only
  (repeat' split) <;> simp -implicitDefEqProofs [h]

@[simp] theorem State.giveUpFrame_rt_wf : s.giveUpFrame.rt.wf := by
  simp -implicitDefEqProofs [State.giveUpFrame, h, RecordTransport.returned_wf]

@[simp] theorem State.refreshArmed_rt_wf : s.refreshArmed.rt.wf := by
  unfold State.refreshArmed
  (repeat' split) <;> simp -implicitDefEqProofs [h]

@[simp] theorem State.memberSummary_rt_wf (c : StationConfig) (now : Instant) (closing : Bool) (sender : StationId)
    (summary m : Image) :
    (s.memberSummary c now closing sender summary m).1.rt.wf := by
  unfold State.memberSummary
  (repeat' split) <;> simp -implicitDefEqProofs [h]

@[simp] theorem State.takeSummary_rt_wf (c : StationConfig) (now : Instant) (closing : Bool) (sender : StationId)
    (summary : Image) :
    (s.takeSummary c now closing sender summary).1.rt.wf := by
  unfold State.takeSummary
  (repeat' split) <;> simp -implicitDefEqProofs [h]

@[simp] theorem State.soundBeat_rt_wf (c : StationConfig) (now : Instant) (closing : Bool) (b : Beat) :
    (s.soundBeat c now closing b).state.rt.wf := by
  unfold State.soundBeat
  dsimp only
  (repeat' split) <;> simp -implicitDefEqProofs [h]

@[simp] theorem State.ownFrameEnd_rt_wf (c : StationConfig) : (s.ownFrameEnd c).state.rt.wf := by
  unfold State.ownFrameEnd
  (repeat' split) <;> simp -implicitDefEqProofs [h, State.ownBeatEnd, RecordTransport.sent_wf]

@[simp] theorem State.classify_rt_wf (c : StationConfig) (now : Instant) (closing inWindow : Bool) (line : List Bool) :
    (s.classify c now closing inWindow line).state.rt.wf := by
  unfold State.classify
  (repeat' split) <;> simp -implicitDefEqProofs [h, State.clashed]

@[simp] theorem State.settle_rt_wf (c : StationConfig) (now : Instant) (closing : Bool) (timing : Timing) :
    (s.settle c now closing timing).rt.wf := by
  unfold State.settle
  (repeat' split) <;> simp -implicitDefEqProofs [h]

@[simp] theorem State.closeWindow_rt_wf (c : StationConfig) (now : Instant) (origin : StationId) (records : List Record) :
    (s.closeWindow c now origin records).rt.wf := by
  unfold State.closeWindow
  (repeat' split) <;> simp -implicitDefEqProofs [h]

@[simp] theorem State.finish_rt_wf (c : StationConfig) (now : Instant) (closing : Bool) (origin : StationId)
    (records : List Record) :
    (s.finish c now closing origin records).rt.wf := by
  unfold State.finish
  split <;> simp -implicitDefEqProofs [h]

theorem State.frameEnd_rt_wf (c : StationConfig) (now : Instant) (line : List Bool) (inWindow : Bool) :
    (s.frameEnd c now line inWindow).rt.wf := by
  refine State.frameEnd_keeps (P := fun s => s.rt.wf) ?_ (fun u hu => ?_) (fun u closing hu => ?_) (fun u closing timing hu => ?_)
    (fun u hu => ?_) (fun u hu => ?_) (fun u closing origin records hu => ?_)
  all_goals simp -implicitDefEqProofs [*]

@[simp] theorem State.resultOf_rt_wf (c : StationConfig) (v : Conversion) (raw : Sample) : (s.resultOf c v raw).rt.wf := by
  unfold State.resultOf
  split <;> simp -implicitDefEqProofs [h, RecordTransport.enter_wf]

@[simp] theorem State.found_rt_wf (c : StationConfig) (now : Instant) : (s.found c now).rt.wf := by
  simp -implicitDefEqProofs [State.found, h]

@[simp] theorem State.failLoad_rt_wf (reason : FaultReason) : (s.failLoad reason).rt.wf := by
  simp -implicitDefEqProofs [State.failLoad, h]

/-- Every command keeps the law of the transport: the commands that O2 lets write the transport by its own laws, the others leave it as it is. -/
theorem State.after_rt_wf (i : Instr) : (s.after i).rt.wf := by
  obtain ⟨t, ht, -, -, -, -, -, -, -, hrt, -⟩ := everyStepAnswersANextState.1 i s
  rw [State.after_of_exec ht]
  cases i with
  | powerOn | resetnLow => cases ht; exact RecordTransport.empty_wf
  | selectRelease now =>
    cases ht
    split
    · exact RecordTransport.empty_wf
    · exact h
  | busClear | addressByte | loadTimeout | checking | abortMarkEnd | arbitrationLoss | startGuardExpiry =>
    cases ht
    (repeat' split) <;> simp -implicitDefEqProofs [h, State.goodLoad]
  | frameStart now =>
    cases ht
    refine State.configured_keeps (P := fun s => s.rt.wf) h fun c _ => ?_
    dsimp only
    (repeat' split) <;> simp -implicitDefEqProofs [h]
  | frameEnd now line =>
    cases ht
    refine State.configured_keeps (P := fun s => s.rt.wf) h fun c _ => ?_
    (repeat' split)
    · exact State.frameEnd_rt_wf h c now line _
    all_goals exact h
  | joinWindowTimerExpiry | cycleOpening | slotPasses | foundingTimerExpiry | conversionComplete =>
    cases ht
    refine State.configured_keeps (P := fun s => s.rt.wf) h fun c _ => ?_
    (repeat' split) <;> simp -implicitDefEqProofs [h]
  | _ => rwa [hrt]

end TransportLaw

/-- Settles O56. -/
theorem everyStepKeepsTheTransportLaw : Obligations.EveryStepKeepsTheTransportLaw := by
  intro s t hw
  refine step_keeps (P := fun s => s.rt.wf) (fun _ _ h => h) (fun s h => ?_) (fun s i h => State.after_rt_wf h i) hw
  simpa -implicitDefEqProofs using h

end Sys2Proof.Machine
end

section
/-! The law of the pending set (R110): every operation keeps it, and with them every step. -/

open Sys2Proof

namespace Sys2Proof.Machine

/-- R110 for a pending set at a station in a given state: never both HALT_REQ and RESUME_REQ, and empty outside MEMBER. -/
def ItemBuffer.okIn (b : ItemBuffer) (state : StationState) : Prop :=
  ¬ (b.haltReq = true ∧ b.resumeReq = true) ∧ (state ≠ .member → b.isEmpty)

theorem State.pendingSetOk_iff (s : State) : s.pendingSetOk ↔ s.cb.okIn s.sc.state := Iff.rfl

/-- An empty pending set suits every state. -/
@[simp] theorem ItemBuffer.okIn_of_isEmpty {b : ItemBuffer} (h : b.isEmpty) (state : StationState) : b.okIn state := by
  obtain ⟨-, hhalt, -, -, -⟩ := id h
  exact ⟨by simp [hhalt], fun _ => h⟩

theorem ItemBuffer.okIn.isEmpty {b : ItemBuffer} {state : StationState} (h : b.okIn state) (hnot : state ≠ .member) : b.isEmpty :=
  h.2 hnot

/-- In MEMBER the pending set may hold anything but the two requests together. -/
theorem ItemBuffer.okIn_member_iff (b : ItemBuffer) : b.okIn .member ↔ ¬ (b.haltReq = true ∧ b.resumeReq = true) := by
  simp [ItemBuffer.okIn]

theorem ItemBuffer.okIn.member {b : ItemBuffer} {state : StationState} (h : b.okIn state) : b.okIn .member :=
  b.okIn_member_iff.2 h.1

@[simp] theorem State.countRefusedJoin_state (s : State) (refused : Bool) : (s.countRefusedJoin refused).sc.state = s.sc.state := by
  unfold State.countRefusedJoin
  split <;> simp

/-- The state as a slot begins, before the assembly that the own slot brings (R24). -/
def State.inSlot (c : StationConfig) (now : Instant) (s : State) : State :=
  s.setCt { s.ct with state := .slots, silence := if s.ti.receiving.isSome then none else some (now + silenceOf c) }

/-- R24: the own slot of a MEMBER brings the assembly. -/
theorem State.slotBegins_own {s : State} (h : s.sc.state = .member ∧ s.ct.position = some s.ct.pointer) (c : StationConfig)
    (now : Instant) : s.slotBegins c now = (s.inSlot c now).assembleBeat c now := if_pos h

theorem State.slotBegins_other {s : State} (h : ¬ (s.sc.state = .member ∧ s.ct.position = some s.ct.pointer)) (c : StationConfig)
    (now : Instant) : s.slotBegins c now = s.inSlot c now := if_neg h

section Departures

variable (s : State)

@[simp] theorem State.leaveMember_cb : s.leaveMember.cb = s.cb.discarded := by simp [State.leaveMember]

@[simp] theorem State.leftByLeave_cb : s.leftByLeave.cb = s.cb.discarded := by simp [State.leftByLeave]

@[simp] theorem State.evicted_cb (c : StationConfig) (now : Instant) : (s.evicted c now).cb = s.cb.discarded := by
  simp [State.evicted]

@[simp] theorem State.evictedByAdoption_cb (c : StationConfig) (now : Instant) (closing : Bool) (sender : StationId) (summary : Image) :
    (s.evictedByAdoption c now closing sender summary).cb = s.cb.discarded := by simp [State.evictedByAdoption]

@[simp] theorem State.yieldTo_cb (c : StationConfig) (now : Instant) (closing : Bool) (sender : StationId) (summary : Image) :
    (s.yieldTo c now closing sender summary).cb = s.cb.discarded := by simp [State.yieldTo]

end Departures

/-- A good load leaves the empty pending set of LOADING as it is. -/
theorem State.goodLoad_pendingSetOk {s : State} (hempty : s.cb.isEmpty) (c : StationConfig) (now : Instant) :
    (s.goodLoad c now).pendingSetOk := by
  rw [State.pendingSetOk_iff]
  unfold State.goodLoad State.leaveLoading
  dsimp only
  split <;> simp -implicitDefEqProofs [hempty]

section PendingSetLaw

variable {s : State} (h : s.cb.okIn s.sc.state)
include h

/-- FAULT is entered with an empty pending set: a MEMBER discards its own first, and no other state has one. -/
@[simp] theorem State.enterFault_cb_isEmpty (reason : FaultReason) : (s.enterFault reason).cb.isEmpty := by
  unfold State.enterFault
  split
  next => simp -implicitDefEqProofs [ItemBuffer.discarded_isEmpty]
  next hnot => exact h.isEmpty hnot

@[simp] theorem State.assembleBeat_cb_okIn (c : StationConfig) (now : Instant) :
    (s.assembleBeat c now).cb.okIn .member := by
  have hboth := h.1
  unfold State.assembleBeat
  (repeat' split) <;> simpa [ItemBuffer.okIn_member_iff, State.judged] using hboth

@[simp] theorem State.slotBegins_cb_okIn (c : StationConfig) (now : Instant) : (s.slotBegins c now).cb.okIn s.sc.state := by
  by_cases hown : s.sc.state = .member ∧ s.ct.position = some s.ct.pointer
  · rw [State.slotBegins_own hown, hown.1]
    exact State.assembleBeat_cb_okIn (s := s.inSlot c now) h c now
  · rw [State.slotBegins_other hown]
    exact h

@[simp] theorem State.judgeJoin_cb_okIn (c : StationConfig) (now : Instant) :
    (s.judgeJoin c now).cb.okIn (s.judgeJoin c now).sc.state := by
  unfold State.judgeJoin
  (repeat' split) <;> simp -implicitDefEqProofs [h]

@[simp] theorem State.windowOpens_cb_okIn (c : StationConfig) (now : Instant) :
    (s.windowOpens c now).cb.okIn (s.windowOpens c now).sc.state := by
  unfold State.windowOpens
  dsimp only
  split <;> simp -implicitDefEqProofs [h]

@[simp] theorem State.movePointer_cb_okIn (c : StationConfig) (now : Instant) (p : Nat) :
    (s.movePointer c now p).cb.okIn (s.movePointer c now p).sc.state := by
  unfold State.movePointer
  dsimp only
  split
  · simpa -implicitDefEqProofs using State.slotBegins_cb_okIn (s := s.setCt { s.ct with pointer := p }) h c now
  · exact State.windowOpens_cb_okIn (s := s.setCt { s.ct with pointer := p }) h c now

@[simp] theorem State.openCycle_cb_okIn (c : StationConfig) (now : Instant) (byFrame : Bool) :
    (s.openCycle c now byFrame).cb.okIn s.sc.state := by
  unfold State.openCycle
  split
  next m _ => exact State.slotBegins_cb_okIn (s := s.setCt (s.ct.opened c s.sc.departing now byFrame m)) h c now
  next => exact h

@[simp] theorem State.timerCycleEnd_cb_okIn (c : StationConfig) (now : Instant) : (s.timerCycleEnd c now).cb.okIn s.sc.state := by
  unfold State.timerCycleEnd
  (repeat' split) <;> simp -implicitDefEqProofs [h]

@[simp] theorem State.failAttempt_cb_okIn (hnot : s.sc.state ≠ .member) (c : StationConfig) (now : Instant) :
    (s.failAttempt c now).cb.okIn (s.failAttempt c now).sc.state := by
  have hempty := h.isEmpty hnot
  unfold State.failAttempt
  (repeat' split) <;> simp -implicitDefEqProofs [hempty, h]

/-- The cycle end of a tracked image leaves the empty pending set as it is. -/
@[simp] theorem State.trackedCycleEnd_cb_okIn (hnot : s.sc.state ≠ .member) (c : StationConfig) (now : Instant) (emptied : Bool) (m' : Image) :
    (s.trackedCycleEnd c now emptied m').cb.okIn (s.trackedCycleEnd c now emptied m').sc.state := by
  unfold State.trackedCycleEnd
  dsimp only
  (repeat' split) <;> simp -implicitDefEqProofs [h, hnot]

@[simp] theorem State.staysMember_cb_okIn (c : StationConfig) (now : Instant) (m after : Image) (change : HaltChange) :
    (s.staysMember c now m after change).cb.okIn s.sc.state := by
  unfold State.staysMember
  refine Eq.mp (congrArg _ ?_) (State.timerCycleEnd_cb_okIn (s := _) ?_ c now) <;> simp -implicitDefEqProofs [h]

@[simp] theorem State.memberCycleEnd_cb_okIn (c : StationConfig) (now : Instant) (m m' : Image) :
    (s.memberCycleEnd c now m m').cb.okIn (s.memberCycleEnd c now m m').sc.state := by
  unfold State.memberCycleEnd
  dsimp only
  split
  · simpa -implicitDefEqProofs using State.staysMember_cb_okIn (s := s.countRefusedJoin _) (by simpa using h) c now m m' _
  · split <;> simp -implicitDefEqProofs [ItemBuffer.discarded_isEmpty]

@[simp] theorem State.cycleEnd_cb_okIn (c : StationConfig) (now : Instant) :
    (s.cycleEnd c now).cb.okIn (s.cycleEnd c now).sc.state := by
  unfold State.cycleEnd
  dsimp only
  (repeat' split) <;> simp_all -implicitDefEqProofs

@[simp] theorem State.takeLeave_cb_okIn : s.takeLeave.cb.okIn s.takeLeave.sc.state := by
  have hempty := h.isEmpty
  unfold State.takeLeave
  split <;> simp_all -implicitDefEqProofs

@[simp] theorem State.takeDeferredLeave_cb_okIn : s.takeDeferredLeave.cb.okIn s.takeDeferredLeave.sc.state := by
  unfold State.takeDeferredLeave
  split
  · exact State.takeLeave_cb_okIn h
  · exact h

@[simp] theorem State.confirmJoin_cb_okIn (c : StationConfig) (now : Instant) (closing known : Bool) (sender : StationId)
    (summary : Image) :
    (s.confirmJoin c now closing known sender summary).cb.okIn (s.confirmJoin c now closing known sender summary).sc.state := by
  simpa [State.confirmJoin] using h.member

@[simp] theorem State.memberSummary_cb_okIn (c : StationConfig) (now : Instant) (closing : Bool) (sender : StationId)
    (summary m : Image) :
    (s.memberSummary c now closing sender summary m).1.cb.okIn (s.memberSummary c now closing sender summary m).1.sc.state := by
  unfold State.memberSummary
  (repeat' split) <;> simp -implicitDefEqProofs [h, ItemBuffer.discarded_isEmpty]

@[simp] theorem State.takeSummary_cb_okIn (c : StationConfig) (now : Instant) (closing : Bool) (sender : StationId)
    (summary : Image) :
    (s.takeSummary c now closing sender summary).1.cb.okIn (s.takeSummary c now closing sender summary).1.sc.state := by
  unfold State.takeSummary
  (repeat' split)
  case h_3.isTrue => exact State.confirmJoin_cb_okIn h c now closing _ sender summary
  all_goals simp_all -implicitDefEqProofs

@[simp] theorem State.soundBeat_cb_okIn (c : StationConfig) (now : Instant) (closing : Bool) (b : Beat) :
    (s.soundBeat c now closing b).state.cb.okIn (s.soundBeat c now closing b).state.sc.state := by
  unfold State.soundBeat
  dsimp only
  (repeat' split) <;> simp -implicitDefEqProofs [h]

@[simp] theorem State.ownFrameEnd_cb_okIn (c : StationConfig) :
    (s.ownFrameEnd c).state.cb.okIn (s.ownFrameEnd c).state.sc.state := by
  have hempty := h.isEmpty
  unfold State.ownFrameEnd
  split
  · unfold State.ownJoinEnd
    dsimp only
    split <;> simp_all -implicitDefEqProofs
  all_goals
    split
    next b _ =>
      have hsent : (s.cb.sent b.items).okIn s.sc.state :=
        ⟨ItemBuffer.sent_exclusive h.1 _, fun hnot => ItemBuffer.sent_isEmpty (hempty hnot) _⟩
      simpa [State.ownBeatEnd] using hsent
    next => exact h

@[simp] theorem State.classify_cb_okIn (c : StationConfig) (now : Instant) (closing inWindow : Bool) (line : List Bool) :
    (s.classify c now closing inWindow line).state.cb.okIn (s.classify c now closing inWindow line).state.sc.state := by
  unfold State.classify
  (repeat' split) <;> simp -implicitDefEqProofs [h, State.clashed]

@[simp] theorem State.settle_cb_okIn (c : StationConfig) (now : Instant) (closing : Bool) (timing : Timing) :
    (s.settle c now closing timing).cb.okIn (s.settle c now closing timing).sc.state := by
  unfold State.settle
  (repeat' split) <;> simp -implicitDefEqProofs [h]

@[simp] theorem State.closeWindow_cb_okIn (c : StationConfig) (now : Instant) (origin : StationId) (records : List Record) :
    (s.closeWindow c now origin records).cb.okIn (s.closeWindow c now origin records).sc.state := by
  unfold State.closeWindow
  (repeat' split) <;> simp -implicitDefEqProofs [h]

@[simp] theorem State.finish_cb_okIn (c : StationConfig) (now : Instant) (closing : Bool) (origin : StationId)
    (records : List Record) :
    (s.finish c now closing origin records).cb.okIn (s.finish c now closing origin records).sc.state := by
  unfold State.finish
  split <;> simp -implicitDefEqProofs [h]

theorem State.frameEnd_pendingSetOk (c : StationConfig) (now : Instant) (line : List Bool) (inWindow : Bool) :
    (s.frameEnd c now line inWindow).pendingSetOk := by
  refine State.frameEnd_keeps (P := State.pendingSetOk) ?_ (fun u hu => ?_) (fun u closing hu => ?_) (fun u closing timing hu => ?_)
    (fun u hu => ?_) (fun u hu => ?_) (fun u closing origin records hu => ?_)
  case refine_6 => exact State.takeDeferredLeave_cb_okIn hu
  all_goals rw [State.pendingSetOk_iff] at *
  all_goals simp -implicitDefEqProofs [*]

@[simp] theorem State.postRequest_cb_okIn (cause : Cause) (total : Nat) : (s.postRequest cause total).cb.okIn s.sc.state := by
  unfold State.postRequest
  split
  next hmember =>
    rw [hmember.1] at h ⊢
    split <;> simpa [ItemBuffer.okIn_member_iff] using h
  next => exact h

@[simp] theorem State.judgeRange_cb_okIn (c : StationConfig) (channel : Channel) (outOfRange : Bool) :
    (s.judgeRange c channel outOfRange).cb.okIn s.sc.state := by
  unfold State.judgeRange
  dsimp only
  (repeat' split)
  · exact State.postRequest_cb_okIn (s := (s.setRm _).raise .range) (by simpa using h) _ _
  all_goals simpa using h

theorem State.resultOf_pendingSetOk (c : StationConfig) (v : Conversion) (raw : Sample) :
    (s.resultOf c v raw).pendingSetOk := by
  rw [State.pendingSetOk_iff]
  unfold State.resultOf
  dsimp only
  split <;> simp -implicitDefEqProofs [h]

@[simp] theorem State.takeCaptureCommand_cb_okIn (total : Byte) : (s.takeCaptureCommand total).cb.okIn s.sc.state := by
  unfold State.takeCaptureCommand
  (repeat' split) <;> simp -implicitDefEqProofs [h]

@[simp] theorem State.takeHalt_cb_okIn : s.takeHalt.cb.okIn s.sc.state := by
  unfold State.takeHalt
  (repeat' split) <;> simp_all -implicitDefEqProofs [ItemBuffer.okIn_member_iff]

@[simp] theorem State.takeResume_cb_okIn : s.takeResume.cb.okIn s.sc.state := by
  unfold State.takeResume
  (repeat' split) <;> simp_all -implicitDefEqProofs [ItemBuffer.okIn_member_iff]

@[simp] theorem State.takeJoin_cb_okIn (now : Instant) : (s.takeJoin now).cb.okIn (s.takeJoin now).sc.state := by
  have hempty := h.isEmpty
  unfold State.takeJoin
  (repeat' split) <;> simp_all -implicitDefEqProofs

@[simp] theorem State.takeLeaveCommand_cb_okIn : s.takeLeaveCommand.cb.okIn s.takeLeaveCommand.sc.state := by
  have htaken := State.takeLeave_cb_okIn h
  have hempty := h.isEmpty
  unfold State.takeLeaveCommand
  (repeat' split) <;> simp_all -implicitDefEqProofs

@[simp] theorem State.found_cb_okIn (c : StationConfig) (now : Instant) :
    (s.found c now).cb.okIn (s.found c now).sc.state := by
  unfold State.found
  exact Eq.mp (congrArg _ (by simp)) (State.openCycle_cb_okIn (s := _) (by simpa using h.member) c now false)

theorem State.failLoad_pendingSetOk (reason : FaultReason) : (s.failLoad reason).pendingSetOk := by
  rw [State.pendingSetOk_iff]
  simp -implicitDefEqProofs [State.failLoad, h]

/-- Every command keeps the law of the pending set, where the blocks agree with the station state. -/
theorem State.after_pendingSetOk (hagrees : s.agrees) (i : Instr) : (s.after i).pendingSetOk := by
  have hreset : State.reset.cb.isEmpty := by simp [ItemBuffer.isEmpty, State.reset, ItemBuffer.afterReset]
  have hempty := h.isEmpty
  have hload := State.failLoad_pendingSetOk h
  have h' : s.pendingSetOk := h
  cases i with
  | powerOn | resetnLow => exact ItemBuffer.okIn_of_isEmpty hreset _
  | selectRelease now =>
    simp only [State.after, exec, execSelectRelease]
    split
    · exact ItemBuffer.okIn_of_isEmpty hreset _
    · exact h
  | powerOnDelayExpiry | resetnRise | imageByte | readbackMismatch | arbitrationLoss | startGuardExpiry | holdoffExpiry =>
    simp only [State.after, exec, execPowerOnDelayExpiry, execResetnRise, execImageByte, execReadbackMismatch,
      execArbitrationLoss, execStartGuardExpiry, execHoldoffExpiry, State.startLoading, State.pendingSetOk_iff]
    (repeat' split) <;> simpa using h
  | busClear | addressByte | loadTimeout =>
    simp only [State.after, exec, execBusClear, execAddressByte, execLoadTimeout]
    (repeat' split) <;> simp -implicitDefEqProofs [hload, h', State.pendingSetOk_iff, h]
  | checking now =>
    simp only [State.after, exec, execChecking]
    split
    next hphase =>
      have hloading : s.sc.state = .loading := hagrees.1.1.2 (by simp [hphase])
      split
      · exact State.failLoad_pendingSetOk h _
      · exact State.goodLoad_pendingSetOk (hempty (by simp [hloading])) _ _
    next => exact h
  | abortMarkEnd =>
    have hgiven : s.giveUpFrame.cb.okIn s.giveUpFrame.sc.state := by simpa using h
    simp only [State.after, exec, execAbortMarkEnd]
    (repeat' split)
    · exact ItemBuffer.okIn_of_isEmpty (State.enterFault_cb_isEmpty hgiven _) _
    · exact State.takeDeferredLeave_cb_okIn hgiven
    · exact h
  | frameStart now =>
    have hheard : ∀ c x, ((s.setTi x).restartFounding c now).cb.okIn ((s.setTi x).restartFounding c now).sc.state := by
      intro c x
      unfold State.restartFounding
      split <;> simpa using h
    refine State.configured_keeps (P := State.pendingSetOk) h fun c _ => ?_
    split
    · dsimp only
      split
      · simpa -implicitDefEqProofs [State.pendingSetOk_iff] using State.openCycle_cb_okIn (hheard c _) c now true
      all_goals exact hheard _ _
    · exact h
  | frameEnd now line =>
    refine State.configured_keeps (P := State.pendingSetOk) h fun c _ => ?_
    (repeat' split)
    · exact State.frameEnd_pendingSetOk h c now line _
    all_goals exact h
  | frameBegin | slotPasses | joinWindowTimerExpiry | cycleOpening | phase | trigRisingEdge |
    foundingTimerExpiry =>
    refine State.configured_keeps (P := State.pendingSetOk) h fun c _ => ?_
    rw [State.pendingSetOk_iff]
    (repeat' split) <;> simp -implicitDefEqProofs [h]
  | conversionComplete samples =>
    refine State.configured_keeps (P := State.pendingSetOk) h fun c _ => ?_
    split
    next v _ now _ _ =>
      dsimp only
      split
      · exact h
      · exact State.resultOf_pendingSetOk (s := s.setSq (s.sq.completed now samples)) h c v _
    next => exact h
  | join | leave =>
    refine State.portCommand_keeps (P := State.pendingSetOk) h ?_
    simp only [State.pendingSetOk_iff, h, State.takeJoin_cb_okIn, State.takeLeaveCommand_cb_okIn]
  | status | events | roster | read | release | close | capture | halt | resumeCommand | reset | unknown =>
    refine State.portCommand_keeps (P := State.pendingSetOk) h ?_
    rw [State.pendingSetOk_iff]
    simp -implicitDefEqProofs [h]

end PendingSetLaw

/-- What a step leads to from states of one kind: what the end of the arbitration field and every command lead to. -/
theorem step_leads {P R : State → Prop} (hqueue : ∀ s rest, P s → P (s.setPending rest)) (hidle : ∀ s, P s → R s.idleStep)
    (hcommand : ∀ s i, P s → R (s.after i)) {s t : State} (hs : P s) (h : step s = .next t) : R t := by
  cases hp : s.pending with
  | nil =>
    rw [step_of_empty hp] at h
    cases h
    exact hidle s hs
  | cons i rest =>
    rw [stepRunsFrontCommand i s rest hp, exec_eq_next] at h
    cases h
    exact hcommand _ i (hqueue s rest hs)

/-- Settles O58. -/
theorem everyStepKeepsThePendingSetLaw : Obligations.EveryStepKeepsThePendingSetLaw := by
  intro s t hagrees hok
  refine step_leads (P := fun s => s.agrees ∧ s.pendingSetOk) (fun _ _ h => h) (fun s h => ?_)
    (fun s i h => State.after_pendingSetOk h.2 h.1 i) ⟨hagrees, hok⟩
  simpa [State.pendingSetOk_iff] using h.2

end Sys2Proof.Machine
end

section
/-! What image unit, cycle timer and trunk interface hold in each station state (R1, R20, R42, R51, R58), with a law of the images held: every operation keeps it. -/

open Sys2Proof

namespace Sys2Proof.Machine

/-- The summary step of a BEAT (R54): nothing where it carries none. -/
def State.summaryStep (c : StationConfig) (now : Instant) (closing : Bool) (b : Beat) (s : State) : State × SummaryOutcome :=
  match b.summary with
  | some summary => s.takeSummary c now closing b.sender summary
  | none => (s, .ignored)

section SoundBeat

variable {s : State} {b : Beat}

theorem State.summaryStep_none (hb : b.summary = none) (c : StationConfig) (now : Instant) (closing : Bool) :
    s.summaryStep c now closing b = (s, .ignored) := by simp [State.summaryStep, hb]

theorem State.summaryStep_some {x : Image} (hb : b.summary = some x) (c : StationConfig) (now : Instant) (closing : Bool) :
    s.summaryStep c now closing b = s.takeSummary c now closing b.sender x := by simp [State.summaryStep, hb]

/-- A clean BEAT whose sender the image after the summary step lists. -/
theorem State.soundBeat_listed {c : StationConfig} {now : Instant} {closing : Bool} {m : Image} {p : Nat} {u : State} {outcome : SummaryOutcome}
    (hstep : s.summaryStep c now closing b = (u, outcome)) (hm : u.iu.image = some m) (hp : m.position b.sender = some p) :
    s.soundBeat c now closing b =
      { state := (u.listedBeat c m p outcome b).hear b.sender, timing := if outcome = .taken then .set else .listed p,
        origin := b.sender, records := b.records } := by
  cases hb : b.summary with
  | none =>
    rw [State.summaryStep_none hb] at hstep
    cases hstep
    simp [State.soundBeat, hb, hm, hp]
  | some x =>
    rw [State.summaryStep_some hb] at hstep
    simp [State.soundBeat, hb, hstep, hm, hp]

/-- A clean BEAT whose sender the image after the summary step does not list is FOREIGN. -/
theorem State.soundBeat_foreign {c : StationConfig} {now : Instant} {closing : Bool} {m : Image} {u : State} {outcome : SummaryOutcome}
    (hstep : s.summaryStep c now closing b = (u, outcome)) (hm : u.iu.image = some m) (hp : m.position b.sender = none) :
    s.soundBeat c now closing b =
      { state := (u.setTi { u.ti with foreign := saturate255 u.ti.foreign }).raise .foreign,
        timing := if outcome = .taken then .set else .restart, origin := b.sender, records := [] } := by
  cases hb : b.summary with
  | none =>
    rw [State.summaryStep_none hb] at hstep
    cases hstep
    simp [State.soundBeat, hb, hm, hp]
  | some x =>
    rw [State.summaryStep_some hb] at hstep
    simp [State.soundBeat, hb, hstep, hm, hp]

/-- A clean BEAT that leaves the station without an image is unplaced. -/
theorem State.soundBeat_unplaced {c : StationConfig} {now : Instant} {closing : Bool} {u : State} {outcome : SummaryOutcome}
    (hstep : s.summaryStep c now closing b = (u, outcome)) (hm : u.iu.image = none) :
    s.soundBeat c now closing b =
      { state := u, timing := if outcome = .taken then .set else .restart, origin := b.sender, records := [] } := by
  cases hb : b.summary with
  | none =>
    rw [State.summaryStep_none hb] at hstep
    cases hstep
    simp [State.soundBeat, hb, hm]
  | some x =>
    rw [State.summaryStep_some hb] at hstep
    simp [State.soundBeat, hb, hstep, hm]

end SoundBeat
/-- A law of images that what the image unit does to an image keeps: the arrival of an item, and a cycle end that leaves an entry. A lawful summary obeys it. -/
structure ImageLaw (L : Image → Prop) : Prop where
  arrive : ∀ {m : Image} (k : Marks) (sender : StationId) (item : Item), L m → L (m.arrive k sender item).1
  cycleEnd : ∀ {m : Image} (k : Marks) (heard : IdSet) (plan : Option PhasePlan) (digest : Digest) (n : Nat), L m →
    (m.cycleEnd k heard plan digest n).roster ≠ [] → L (m.cycleEnd k heard plan digest n)
  lawful : ∀ {m : Image}, m.lawful = true → L m

/-- What a station of configuration `c` holds in each state but LOADING: nothing in IDLE and FAULT; no image in LISTEN, or a tracked one in LISTEN and JOINING; image, copy and certainty in MEMBER. The images obey the law `L`. -/
inductive State.Holds (L : Image → Prop) (c : StationConfig) (s : State) : Prop
  | off (state : s.sc.state = .idle ∨ s.sc.state = .fault) (unit : s.iu = .empty) (timer : s.ct = .stopped) (tx : s.ti.tx = .idle)
    (rx : s.ti.receiving = none)
  | untimed (state : s.sc.state = .listen) (image : s.iu.image = none) (copy : s.iu.copy = none)
    (certainty : s.iu.certainty = none) (timer : s.ct.state = .untimed)
  | tracking (m : Image) (state : s.sc.state = .listen ∨ s.sc.state = .joining) (image : s.iu.image = some m) (law : L m)
    (copy : s.iu.copy = none) (certainty : s.iu.certainty = none) (timer : s.ct.state.timed)
  | member (m k : Image) (state : s.sc.state = .member) (image : s.iu.image = some m) (law : L m) (lists : m.lists c.id = true)
    (copy : s.iu.copy = some k) (copyLaw : L k) (certainty : s.iu.certainty.isSome) (timer : s.ct.state.timed)

variable {L : Image → Prop} {c : StationConfig} {s t : State}

/-! ### The operations on the form -/

/-- A station that holds an image hears and sends. -/
theorem State.Holds.on {m : Image} (h : s.Holds L c) (hm : s.iu.image = some m) : s.receiverOn = true := by
  cases h with
  | off _ unit => simp [unit, ImageUnit.empty] at hm
  | untimed state => simp [State.receiverOn, state]
  | tracking _ state => rcases state with state | state <;> simp [State.receiverOn, state]
  | member _ _ state => simp [State.receiverOn, state]

theorem State.Holds.law {m : Image} (h : s.Holds L c) (hm : s.iu.image = some m) : L m := by
  cases h with
  | off _ unit => simp [unit, ImageUnit.empty] at hm
  | untimed _ image => simp [image] at hm
  | tracking _ _ image law | member _ _ _ image law => rw [image] at hm; cases hm; exact law

/-- The CT of a station that holds an image times a cycle. -/
theorem State.Holds.timed {m : Image} (h : s.Holds L c) (hm : s.iu.image = some m) : s.ct.state.timed := by
  cases h with
  | off _ unit => simp [unit, ImageUnit.empty] at hm
  | untimed _ image => simp [image] at hm
  | tracking _ _ _ _ _ _ timer | member _ _ _ _ _ _ _ _ _ timer => exact timer

/-- The form shows station state, image unit and CT; the transmitter and the receiver only where they are off. -/
theorem State.Holds.congr (h : s.Holds L c) (hstate : t.sc.state = s.sc.state) (hiu : t.iu = s.iu) (hct : t.ct = s.ct)
    (hti : s.receiverOn = true ∨ (t.ti.tx = s.ti.tx ∨ t.ti.tx = .idle) ∧ t.ti.receiving = s.ti.receiving) : t.Holds L c := by
  cases h with
  | off state unit timer tx rx =>
    obtain ⟨htx, hrx⟩ := hti.resolve_left (by rcases state with state | state <;> simp [State.receiverOn, state])
    exact .off (hstate ▸ state) (hiu ▸ unit) (hct ▸ timer) (htx.elim (·.trans tx) id) (hrx.trans rx)
  | untimed state image copy certainty timer =>
    exact .untimed (hstate ▸ state) (hiu ▸ image) (hiu ▸ copy) (hiu ▸ certainty) (hct ▸ timer)
  | tracking m state image law copy certainty timer =>
    exact .tracking m (hstate ▸ state) (hiu ▸ image) law (hiu ▸ copy) (hiu ▸ certainty) (hct ▸ timer)
  | member m k state image law lists copy copyLaw certainty timer =>
    exact .member m k (hstate ▸ state) (hiu ▸ image) law lists (hiu ▸ copy) copyLaw (hiu ▸ certainty) (hct ▸ timer)

theorem State.Holds.on_of_tx (h : s.Holds L c) (ht : s.ti.tx ≠ .idle) : s.receiverOn = true := by
  cases h with
  | off _ _ _ tx => exact absurd tx ht
  | untimed state => simp [State.receiverOn, state]
  | tracking _ state => rcases state with state | state <;> simp [State.receiverOn, state]
  | member _ _ state => simp [State.receiverOn, state]

/-- A CT that times a cycle stands beside an image. -/
theorem State.Holds.image_of_timed (h : s.Holds L c) (ht : s.ct.state.timed) : ∃ m, s.iu.image = some m := by
  cases h with
  | off _ _ timer => simp [timer, CycleTimer.stopped, CtState.timed] at ht
  | untimed _ _ _ _ timer => simp [timer, CtState.timed] at ht
  | tracking m _ image | member m _ _ image => exact ⟨m, image⟩

theorem State.receiverOn_congr (h : t.sc.state = s.sc.state) : t.receiverOn = s.receiverOn := by
  unfold State.receiverOn
  rw [h]

/-- Where the receiver is on, the form shows the CT's state alone. -/
theorem State.Holds.congr_on (h : s.Holds L c) (hon : s.receiverOn = true) (hstate : t.sc.state = s.sc.state)
    (himage : t.iu.image = s.iu.image) (hcopy : t.iu.copy = s.iu.copy) (hcertainty : t.iu.certainty = s.iu.certainty)
    (hct : t.ct.state = s.ct.state) : t.Holds L c := by
  cases h with
  | off state => rcases state with state | state <;> simp [State.receiverOn, state] at hon
  | untimed state image copy certainty timer =>
    exact .untimed (hstate ▸ state) (himage ▸ image) (hcopy ▸ copy) (hcertainty ▸ certainty) (hct ▸ timer)
  | tracking m state image law copy certainty timer =>
    exact .tracking m (hstate ▸ state) (himage ▸ image) law (hcopy ▸ copy) (hcertainty ▸ certainty) (hct ▸ timer)
  | member m k state image law lists copy copyLaw certainty timer =>
    exact .member m k (hstate ▸ state) (himage ▸ image) law lists (hcopy ▸ copy) copyLaw (hcertainty ▸ certainty) (hct ▸ timer)

/-- A station that holds an image may take another one in its place, and any timing of a cycle. -/
theorem State.Holds.reimaged {m m' : Image} (h : s.Holds L c) (hm : s.iu.image = some m) (hstate : t.sc.state = s.sc.state)
    (hm' : t.iu.image = some m') (hlaw : L m') (hlists : s.sc.state = .member → m.lists c.id = true → m'.lists c.id = true)
    (hcopy : t.iu.copy = s.iu.copy) (hcertainty : t.iu.certainty.isSome = s.iu.certainty.isSome) (htimed : t.ct.state.timed) :
    t.Holds L c := by
  cases h with
  | off _ unit => simp [unit, ImageUnit.empty] at hm
  | untimed _ image => simp [image] at hm
  | tracking _ state image law copy certainty =>
    exact .tracking m' (hstate ▸ state) hm' hlaw (hcopy.trans copy) (by simpa [certainty] using hcertainty) htimed
  | member _ k state image law lists copy copyLaw certainty =>
    rw [image] at hm
    cases hm
    exact .member m' k (hstate.trans state) hm' hlaw (hlists state lists) (hcopy.trans copy) copyLaw (hcertainty ▸ certainty) htimed

/-- A station that holds an image may take any timing of a cycle. -/
theorem State.Holds.retimed {m : Image} (h : s.Holds L c) (hm : s.iu.image = some m) (hstate : t.sc.state = s.sc.state)
    (hiu : t.iu = s.iu) (htimed : t.ct.state.timed) : t.Holds L c :=
  h.reimaged hm hstate (hiu ▸ hm) (h.law hm) (fun _ => id) (by rw [hiu]) (by rw [hiu]) htimed

theorem State.Holds.of_member (h : s.Holds L c) (hs : s.sc.state = .member) :
    (∃ m, s.iu.image = some m ∧ m.lists c.id = true) ∧ ∃ k, s.iu.copy = some k ∧ L k := by
  cases h with
  | off state => simp [hs] at state
  | untimed state => simp [hs] at state
  | tracking _ state => simp [hs] at state
  | member m k _ image _ lists copy copyLaw => exact ⟨⟨m, image, lists⟩, k, copy, copyLaw⟩

/-- What LISTEN and JOINING hold beside the image. -/
theorem State.Holds.of_tracking (h : s.Holds L c) (hs : s.sc.state = .listen ∨ s.sc.state = .joining) :
    s.iu.copy = none ∧ s.iu.certainty = none ∧ (s.ct.state = .untimed ∨ s.ct.state.timed) := by
  cases h with
  | off state => rcases hs with hs | hs <;> simp [hs] at state
  | untimed _ _ copy certainty timer => exact ⟨copy, certainty, .inl timer⟩
  | tracking _ _ _ _ copy certainty timer => exact ⟨copy, certainty, .inr timer⟩
  | member _ _ state => rcases hs with hs | hs <;> simp [hs] at state

theorem State.Holds.listens {m : Image} (h : s.Holds L c) (hm : s.iu.image = some m) (hnot : s.sc.state ≠ .member) :
    s.sc.state = .listen ∨ s.sc.state = .joining := by
  cases h with
  | off _ unit => simp [unit, ImageUnit.empty] at hm
  | untimed _ image => simp [image] at hm
  | tracking _ state => exact state
  | member _ _ state => exact absurd state hnot

/-! ### Departures, FAULT and LISTEN -/

theorem State.enterIdle_holds : s.enterIdle.Holds L c :=
  .off (.inl rfl) rfl rfl rfl rfl

theorem State.enterFault_holds (reason : FaultReason) : (s.enterFault reason).Holds L c := by
  unfold State.enterFault
  exact .off (.inr rfl) rfl rfl rfl rfl

theorem State.listenUntimed_holds (now : Instant) : (s.listenUntimed c now).Holds L c :=
  .untimed rfl rfl rfl rfl rfl

theorem State.leftByLeave_holds : s.leftByLeave.Holds L c := State.enterIdle_holds

theorem State.evicted_holds (now : Instant) : (s.evicted c now).Holds L c := State.listenUntimed_holds now

theorem State.failLoad_holds (reason : FaultReason) : (s.failLoad reason).Holds L c := State.enterFault_holds reason

/-! ### Slots and the join window -/

theorem State.assembleBeat_holds (h : s.Holds L c) (now : Instant) : (s.assembleBeat c now).Holds L c := by
  cases hm : s.iu.image with
  | none => rwa [show s.assembleBeat c now = s by simp [State.assembleBeat, hm]]
  | some m => exact h.congr (by simp) (by simp) (by simp) (.inl (h.on hm))

theorem State.slotBegins_holds {m : Image} (h : s.Holds L c) (hm : s.iu.image = some m) (now : Instant) :
    (s.slotBegins c now).Holds L c := by
  have hslot : (s.inSlot c now).Holds L c := h.retimed hm rfl rfl (.inl rfl)
  by_cases hown : s.sc.state = .member ∧ s.ct.position = some s.ct.pointer
  · rw [State.slotBegins_own hown]
    exact State.assembleBeat_holds hslot now
  · rwa [State.slotBegins_other hown]

theorem State.judgeJoin_holds (h : s.Holds L c) (now : Instant) : (s.judgeJoin c now).Holds L c := by
  unfold State.judgeJoin
  split
  next m hm =>
    (repeat' split)
    · exact h.congr rfl rfl rfl (.inl (h.on hm))
    · exact h.congr rfl rfl rfl (.inl (h.on hm))
    · exact State.enterFault_holds _
  next => exact h

theorem State.windowOpens_holds {m : Image} (h : s.Holds L c) (hm : s.iu.image = some m) (now : Instant) :
    (s.windowOpens c now).Holds L c := by
  have hwindow : (s.setCt { s.ct with state := .window, silence := none, window := some (now + silenceOf c) }).Holds L c :=
    h.retimed hm rfl rfl (.inr (.inl rfl))
  unfold State.windowOpens
  dsimp only
  split
  · exact State.judgeJoin_holds hwindow now
  · exact hwindow

theorem State.movePointer_holds {m : Image} (h : s.Holds L c) (hm : s.iu.image = some m) (now : Instant) (p : Nat) :
    (s.movePointer c now p).Holds L c := by
  have hmoved : (s.setCt { s.ct with pointer := p }).Holds L c := h.retimed hm rfl rfl (h.timed hm)
  unfold State.movePointer
  dsimp only
  split
  · exact State.slotBegins_holds hmoved hm now
  · exact State.windowOpens_holds hmoved hm now

theorem State.openCycle_of_image {m : Image} (hm : s.iu.image = some m) (now : Instant) (byFrame : Bool) :
    s.openCycle c now byFrame = (s.setCt (s.ct.opened c s.sc.departing now byFrame m)).slotBegins c now := by
  simp [State.openCycle, hm]

theorem State.openCycle_holds (h : s.Holds L c) (now : Instant) (byFrame : Bool) : (s.openCycle c now byFrame).Holds L c := by
  unfold State.openCycle
  split
  next m hm =>
    exact State.slotBegins_holds (s := s.setCt (s.ct.opened c s.sc.departing now byFrame m)) (h.retimed hm rfl rfl (.inl rfl)) hm now
  next => exact h

/-! ### The cycle end -/

theorem State.timerCycleEnd_holds {m : Image} (h : s.Holds L c) (hm : s.iu.image = some m) (now : Instant) :
    (s.timerCycleEnd c now).Holds L c := by
  unfold State.timerCycleEnd
  (repeat' split)
  · exact State.openCycle_holds h now false
  all_goals exact h.retimed hm rfl rfl (.inr (.inr rfl))

/-- A failed attempt leaves the station off the trunk, or in LISTEN with what it held. -/
theorem State.failAttempt_cases (s : State) (c : StationConfig) (now : Instant) :
    ((s.failAttempt c now).receiverOn = false ∧ ∀ L : Image → Prop, (s.failAttempt c now).Holds L c) ∨
      ((s.failAttempt c now).sc.state = .listen ∧ (s.failAttempt c now).iu = s.iu ∧ (s.failAttempt c now).ct = s.ct) := by
  unfold State.failAttempt
  (repeat' split)
  · exact .inl ⟨rfl, fun _ => State.enterIdle_holds⟩
  · exact .inl ⟨rfl, fun _ => State.enterFault_holds _⟩
  · exact .inr ⟨rfl, rfl, rfl⟩

theorem State.failAttempt_holds (h : s.Holds L c) (hs : s.sc.state = .listen ∨ s.sc.state = .joining) {m : Image}
    (hm : s.iu.image = some m) (now : Instant) : (s.failAttempt c now).Holds L c := by
  obtain ⟨copy, certainty, -⟩ := h.of_tracking hs
  rcases State.failAttempt_cases s c now with ⟨-, hoff⟩ | ⟨hlisten, hiu, hct⟩
  · exact hoff L
  · exact .tracking m (.inl hlisten) (hiu ▸ hm) (h.law hm) (hiu ▸ copy) (hiu ▸ certainty) (hct ▸ h.timed hm)

theorem State.dropTracked_holds (hs : s.sc.state = .listen) : s.dropTracked.Holds L c := by
  rw [State.dropTracked, if_pos hs]
  exact .untimed hs rfl rfl rfl rfl

theorem State.dropTracked_of_not_listen (hs : s.sc.state ≠ .listen) : s.dropTracked = s := if_neg hs

/-- The cycle end of a tracked image: one whose removals leave no entry is not kept, so that the image held obeys the law where every other one does. -/
theorem State.trackedCycleEnd_holds {m : Image} {emptied : Bool} (hs : s.sc.state = .listen ∨ s.sc.state = .joining)
    (h : emptied = false → s.Holds L c) (hm : s.iu.image = some m) (now : Instant) : (s.trackedCycleEnd c now emptied m).Holds L c := by
  cases emptied with
  | true =>
    simp only [State.trackedCycleEnd, if_true]
    by_cases hj : s.sc.state = .joining
    · rw [if_pos hj]
      rcases State.failAttempt_cases s c now with ⟨hnot, hoff⟩ | ⟨hlisten, -, -⟩
      · rw [State.dropTracked_of_not_listen (by intro hl; simp [State.receiverOn, hl] at hnot)]
        exact hoff L
      · exact State.dropTracked_holds hlisten
    · rw [if_neg hj]
      exact State.dropTracked_holds (hs.resolve_right hj)
  | false =>
    have hh := h rfl
    unfold State.trackedCycleEnd
    dsimp only
    rw [if_neg Bool.false_ne_true]
    by_cases hj : s.sc.state = .joining ∧ m.lists c.id = false
    · rw [if_pos hj]
      rcases State.failAttempt_cases s c now with ⟨hoff, hholds⟩ | ⟨-, hiu, -⟩
      · rw [if_neg (by simp [hoff])]
        exact hholds L
      · split
        · exact State.timerCycleEnd_holds (State.failAttempt_holds hh hs hm now) (hiu ▸ hm) now
        · exact State.failAttempt_holds hh hs hm now
    · rw [if_neg hj]
      split
      · exact State.timerCycleEnd_holds hh hm now
      · exact hh

theorem State.staysMember_holds {k m' : Image} (h : s.Holds L c) (hs : s.sc.state = .member) (hlaw : L m')
    (hlists : m'.lists c.id = true) (now : Instant) (change : HaltChange) : (s.staysMember c now k m' change).Holds L c := by
  have hmember : (s.setIu
      { image := some m', copy := some m', marks := .empty,
        certainty := affirmed k c.id s.ct.heard s.ct.summarySeen s.iu.certainty }).Holds L c := by
    cases h with
    | off state => simp [hs] at state
    | untimed state => simp [hs] at state
    | tracking _ state => simp [hs] at state
    | member _ _ _ _ _ _ _ _ certainty timer =>
      refine .member m' m' hs rfl hlaw hlists rfl hlaw ?_ timer
      simp only [State.setIu_iu, affirmed]
      split <;> simp [certainty]
  unfold State.staysMember
  exact State.timerCycleEnd_holds (m := m') (hmember.congr (by simp) (by simp) (by simp) (.inr (by simp))) (by simp) now

theorem State.memberCycleEnd_holds {m' k : Image} (h : s.Holds L c) (hs : s.sc.state = .member)
    (hlaw : m'.lists c.id = true → L m') (now : Instant) : (s.memberCycleEnd c now k m').Holds L c := by
  unfold State.memberCycleEnd
  dsimp only
  (repeat' split)
  next hlists =>
    exact State.staysMember_holds (h.congr (by simp) (by simp) (by simp) (.inr (by simp))) (by simpa using hs) (hlaw hlists) hlists
      now _
  next => exact State.leftByLeave_holds
  next => exact State.evicted_holds now

/-- An image that lists an id has an entry. -/
theorem Image.roster_ne_nil_of_lists {m : Image} {i : StationId} (h : m.lists i = true) : m.roster ≠ [] := by
  intro hnil
  simp [Image.lists, Image.ids, hnil] at h

theorem State.cycleEnd_holds (hL : ImageLaw L) (h : s.Holds L c) (now : Instant) : (s.cycleEnd c now).Holds L c := by
  unfold State.cycleEnd
  split
  next m hm =>
    dsimp only
    have haged : (s.ageHalf c).Holds L c := h.congr (by simp) (by simp) (by simp) (.inr (by simp))
    have himage : (s.ageHalf c).iu.image = some m := by simpa using hm
    generalize s.ageHalf c = u at haged himage
    split
    next hs =>
      refine State.memberCycleEnd_holds haged hs (fun hlists => ?_) now
      exact hL.cycleEnd _ _ _ _ _ (h.law hm) (Image.roster_ne_nil_of_lists hlists)
    next hnot =>
      refine State.trackedCycleEnd_holds ?_ (fun hkept => ?_) rfl now
      · exact haged.listens himage hnot
      · exact haged.reimaged himage rfl rfl (hL.cycleEnd _ _ _ _ _ (h.law hm) (Image.cycleEnd_roster_ne_nil hkept _ _ _))
          (fun hmember => absurd hmember hnot) rfl rfl (haged.timed himage)
  next => exact h

/-! ### Items and summaries -/

theorem State.goDoubtful_holds (h : s.Holds L c) : s.goDoubtful.Holds L c := by
  unfold State.goDoubtful
  split
  next hs =>
    cases h with
    | off state => simp [hs] at state
    | untimed state => simp [hs] at state
    | tracking _ state => simp [hs] at state
    | member m k _ image law lists copy copyLaw _ timer => exact .member m k hs image law lists copy copyLaw rfl timer
  next => exact h

theorem State.giveUpFrame_holds (h : s.Holds L c) : s.giveUpFrame.Holds L c :=
  h.congr rfl rfl rfl (.inr ⟨.inr rfl, rfl⟩)

theorem State.abandonArmedJoin_holds (h : s.Holds L c) : s.abandonArmedJoin.Holds L c := by
  unfold State.abandonArmedJoin
  split
  · exact h.congr rfl rfl rfl (.inr ⟨.inr rfl, rfl⟩)
  · exact h

theorem State.refreshArmed_holds (h : s.Holds L c) : s.refreshArmed.Holds L c := by
  unfold State.refreshArmed
  split
  next m _ _ hm =>
    split
    · exact h.congr rfl rfl rfl (.inr ⟨.inl rfl, rfl⟩)
    · exact State.giveUpFrame_holds h
  next => exact State.giveUpFrame_holds h
  next => exact h

theorem State.takeLeave_holds (h : s.Holds L c) : s.takeLeave.Holds L c := by
  unfold State.takeLeave
  split
  · exact State.enterIdle_holds
  all_goals exact h.congr rfl rfl rfl (.inr ⟨.inl rfl, rfl⟩)

theorem State.takeDeferredLeave_holds (h : s.Holds L c) : s.takeDeferredLeave.Holds L c := by
  unfold State.takeDeferredLeave
  split
  · exact State.takeLeave_holds h
  · exact h

theorem State.applyItem_holds (hL : ImageLaw L) (h : s.Holds L c) (sender : StationId) (item : Item) :
    (s.applyItem c.id sender item).Holds L c := by
  unfold State.applyItem
  split
  next m hm =>
    dsimp only
    have harrived : (s.setIu { s.iu with
        image := some (m.arrive s.iu.marks sender item).1, marks := (m.arrive s.iu.marks sender item).2.1 }).Holds L c :=
      h.reimaged hm rfl rfl (hL.arrive _ _ _ (h.law hm)) (by simp [Image.lists, Image.ids]) rfl rfl (h.timed hm)
    split
    · exact harrived.congr (by simp) (by simp) (by simp) (.inr (by simp))
    · exact harrived
  next => exact h

theorem State.applyItems_holds (hL : ImageLaw L) (h : s.Holds L c) (sender : StationId) (items : List Item) :
    (s.applyItems c.id sender items).Holds L c := by
  unfold State.applyItems
  induction items generalizing s with
  | nil => exact h
  | cons item items ih => exact ih (State.applyItem_holds hL h sender item)

theorem State.takeUpTiming_timed (closing suppressed : Bool) (sender : StationId) (m : Image) :
    (s.takeUpTiming c closing suppressed sender m).ct.state.timed := by
  cases closing <;> simp [State.takeUpTiming, CtState.timed]

@[simp] theorem State.adoptTiming_state (now : Instant) (closing suppressed : Bool) (sender : StationId) (m : Image) :
    (s.adoptTiming c now closing suppressed sender m).ct.state = s.ct.state := by
  simp [State.adoptTiming]

theorem State.trackTiming_timed (h : s.ct.state = .untimed ∨ s.ct.state.timed) (now : Instant) (closing suppressed known : Bool)
    (sender : StationId) (m : Image) : (s.trackTiming c now closing suppressed known sender m).ct.state.timed := by
  unfold State.trackTiming
  split
  next hknown => simpa using h.resolve_left hknown.2
  next => exact State.takeUpTiming_timed _ _ _ _

theorem State.adopt_holds {x : Image} (h : s.Holds L c) (hs : s.sc.state = .member) (hlaw : L x) (hlists : x.lists c.id = true)
    (now : Instant) (closing : Bool) (sender : StationId) : (s.adopt c now closing sender x).Holds L c := by
  obtain ⟨⟨m, hm, -⟩, -⟩ := h.of_member hs
  exact .member x x (by simpa using hs) (by simp [State.adopt]) hlaw hlists (by simp [State.adopt]) hlaw (by simp [State.adopt])
    (by simpa [State.adopt] using h.timed hm)

theorem State.evictedByAdoption_holds {x : Image} (h : s.Holds L c) (hs : s.sc.state = .member) (hlaw : L x) (now : Instant)
    (closing : Bool) (sender : StationId) : (s.evictedByAdoption c now closing sender x).Holds L c := by
  obtain ⟨⟨m, hm, -⟩, -⟩ := h.of_member hs
  exact .tracking x (by simp [State.evictedByAdoption, State.listenTracking]) (by simp [State.evictedByAdoption, State.listenTracking])
    hlaw (by simp [State.evictedByAdoption, State.listenTracking, ImageUnit.empty])
    (by simp [State.evictedByAdoption, State.listenTracking, ImageUnit.empty])
    (by simpa [State.evictedByAdoption] using h.timed hm)

theorem State.yieldTo_holds {x : Image} (hlaw : L x) (now : Instant) (closing : Bool) (sender : StationId) :
    (s.yieldTo c now closing sender x).Holds L c :=
  .tracking x (by simp [State.yieldTo, State.listenTracking]) (by simp [State.yieldTo, State.listenTracking])
    hlaw (by simp [State.yieldTo, State.listenTracking, ImageUnit.empty])
    (by simp [State.yieldTo, State.listenTracking, ImageUnit.empty]) (State.takeUpTiming_timed _ _ _ _)

theorem State.trackSummary_holds {x : Image} (h : s.Holds L c) (hs : s.sc.state = .listen ∨ s.sc.state = .joining) (hlaw : L x)
    (now : Instant) (closing known : Bool) (sender : StationId) : (s.trackSummary c now closing known sender x).Holds L c := by
  obtain ⟨-, -, htimer⟩ := h.of_tracking hs
  exact .tracking x (by simpa using hs) (by simp [State.trackSummary]) hlaw (by simp [State.trackSummary, ImageUnit.empty])
    (by simp [State.trackSummary, ImageUnit.empty]) (State.trackTiming_timed (by simpa using htimer) _ _ _ _ _ _)

theorem State.confirmJoin_holds {x : Image} (h : s.Holds L c) (hs : s.sc.state = .joining) (hlaw : L x) (hlists : x.lists c.id = true)
    (now : Instant) (closing known : Bool) (sender : StationId) : (s.confirmJoin c now closing known sender x).Holds L c := by
  obtain ⟨-, -, htimer⟩ := h.of_tracking (.inr hs)
  exact .member x x (by simp [State.confirmJoin]) (by simp [State.confirmJoin]) hlaw hlists (by simp [State.confirmJoin]) hlaw
    (by simp [State.confirmJoin]) (State.trackTiming_timed (by simpa using htimer) _ _ _ _ _ _)

theorem State.memberSummary_holds {x m : Image} (h : s.Holds L c) (hs : s.sc.state = .member) (hlaw : L x) (now : Instant)
    (closing : Bool) (sender : StationId) : (s.memberSummary c now closing sender x m).1.Holds L c := by
  obtain ⟨⟨k, hk, -⟩, -⟩ := h.of_member hs
  unfold State.memberSummary
  (repeat' split)
  next => exact State.goDoubtful_holds h
  next => exact h.retimed hk rfl rfl (h.timed hk)
  next hlists => exact State.adopt_holds h hs hlaw hlists _ _ _
  next => exact State.evictedByAdoption_holds h hs hlaw _ _ _
  next hlists _ => exact State.adopt_holds h hs hlaw hlists _ _ _
  next => exact h
  next => exact State.yieldTo_holds hlaw _ _ _
  next => exact h

theorem State.takeSummary_holds {x : Image} (h : s.Holds L c) (hlaw : L x) (now : Instant) (closing : Bool) (sender : StationId) :
    (s.takeSummary c now closing sender x).1.Holds L c := by
  unfold State.takeSummary
  split
  next hs _ => exact State.memberSummary_holds h hs hlaw _ _ _
  next hs => exact State.trackSummary_holds h (.inl hs) hlaw _ _ _ _
  next hs =>
    split
    next hlists => exact State.confirmJoin_holds h hs hlaw hlists.1 _ _ _ _
    next =>
      exact State.failAttempt_holds (m := x) (State.trackSummary_holds h (.inr hs) hlaw _ _ _ _) (.inr (by simpa using hs))
        (by simp [State.trackSummary]) now
  next => exact h

/-! ### Frame ends -/

theorem State.hear_holds (h : s.Holds L c) (hon : s.receiverOn = true) (i : StationId) : (s.hear i).Holds L c :=
  h.congr_on hon rfl rfl rfl rfl rfl

theorem State.countInconsistent_holds (h : s.Holds L c) : s.countInconsistent.Holds L c :=
  h.congr rfl rfl rfl (.inr ⟨.inl rfl, rfl⟩)

theorem State.receiveError_holds (h : s.Holds L c) : s.receiveError.Holds L c :=
  State.goDoubtful_holds (h.congr rfl rfl rfl (.inr ⟨.inl rfl, rfl⟩))

theorem State.structureFailed_holds (h : s.Holds L c) (hon : s.receiverOn = true) (b : Beat) :
    (s.structureFailed b).state.Holds L c := by
  have hcounted := State.countInconsistent_holds h
  unfold State.structureFailed
  dsimp only
  split
  · exact State.hear_holds hcounted hon b.sender
  · exact hcounted

theorem State.listedBeat_holds (hL : ImageLaw L) (h : s.Holds L c) (m : Image) (p : Nat) (outcome : SummaryOutcome) (b : Beat) :
    (s.listedBeat c m p outcome b).Holds L c := by
  unfold State.listedBeat
  dsimp only
  split
  · exact State.goDoubtful_holds (State.countInconsistent_holds h)
  · split
    · exact State.countInconsistent_holds h
    · exact State.applyItems_holds hL h b.sender b.items

theorem State.soundBeat_holds (hL : ImageLaw L) (h : s.Holds L c) {b : Beat} (hb : ∀ x, b.summary = some x → x.lawful = true)
    (now : Instant) (closing : Bool) : (s.soundBeat c now closing b).state.Holds L c := by
  have hstep : (s.summaryStep c now closing b).1.Holds L c := by
    cases hs : b.summary with
    | none => rwa [State.summaryStep_none hs]
    | some x =>
      rw [State.summaryStep_some hs]
      exact State.takeSummary_holds h (hL.lawful (hb x hs)) now closing b.sender
  obtain ⟨⟨u, outcome⟩, hu⟩ : ∃ step, s.summaryStep c now closing b = step := ⟨_, rfl⟩
  rw [hu] at hstep
  cases hm : u.iu.image with
  | none => rwa [State.soundBeat_unplaced hu hm]
  | some m =>
    cases hp : m.position b.sender with
    | none =>
      rw [State.soundBeat_foreign hu hm hp]
      exact hstep.congr rfl rfl rfl (.inr ⟨.inl rfl, rfl⟩)
    | some p =>
      rw [State.soundBeat_listed hu hm hp]
      exact State.hear_holds (State.listedBeat_holds hL hstep m p outcome b)
        ((State.receiverOn_congr (by simp)).trans (hstep.on hm)) b.sender

theorem State.joinHeard_holds (h : s.Holds L c) (hon : s.receiverOn = true) (sender : StationId) (digest : Digest) (inWindow : Bool) :
    (s.joinHeard sender digest inWindow).state.Holds L c := by
  unfold State.joinHeard
  split
  · exact h.congr_on hon rfl rfl rfl rfl rfl
  · exact State.countInconsistent_holds h

/-- A summary of sound structure is lawful (R53). -/
theorem Beat.summary_lawful {b : Beat} {inRange : Bool} (h : b.structureOk c inRange = true) {x : Image} (hx : b.summary = some x) :
    x.lawful = true := by
  simp only [Beat.structureOk, hx, Bool.and_eq_true] at h
  exact h.2.1

theorem State.classify_holds (hL : ImageLaw L) (h : s.Holds L c) (hon : s.receiverOn = true) (now : Instant) (closing inWindow : Bool)
    (line : List Bool) : (s.classify c now closing inWindow line).state.Holds L c := by
  unfold State.classify
  (repeat' split)
  next => exact State.receiveError_holds h
  next => exact State.receiveError_holds h
  next => exact State.enterFault_holds _
  next => exact State.joinHeard_holds h hon _ _ _
  next => exact State.enterFault_holds _
  next hsound => exact State.soundBeat_holds hL h (fun _ => Beat.summary_lawful hsound) now closing
  next => exact State.structureFailed_holds h hon _

theorem State.ownFrameEnd_holds (hL : ImageLaw L) (h : s.Holds L c) (hon : s.receiverOn = true) :
    (s.ownFrameEnd c).state.Holds L c := by
  unfold State.ownFrameEnd
  split
  · unfold State.ownJoinEnd
    dsimp only
    split
    next hlisten =>
      obtain ⟨m, hm⟩ := Option.isSome_iff_exists.1 hlisten.2
      obtain ⟨hcopy, hcertainty, -⟩ := h.of_tracking (.inl hlisten.1)
      exact .tracking m (.inr rfl) hm (h.law hm) hcopy hcertainty (h.timed hm)
    next => exact h.congr rfl rfl rfl (.inl hon)
  all_goals
    split
    · unfold State.ownBeatEnd
      refine State.applyItems_holds hL ?_ _ _
      exact h.congr_on hon rfl rfl rfl rfl rfl
    · exact h

theorem State.settle_holds (h : s.Holds L c) (now : Instant) (closing : Bool) (timing : Timing) :
    (s.settle c now closing timing).Holds L c := by
  unfold State.settle
  split
  · exact h
  next hslots =>
    obtain ⟨-, hct⟩ := not_or.1 hslots
    obtain ⟨m, hm⟩ := h.image_of_timed (.inl (not_not.1 hct))
    have hsilence : (s.setCt { s.ct with silence := some (now + silenceOf c) }).Holds L c := h.retimed hm rfl rfl (h.timed hm)
    (repeat' split)
    · exact hsilence
    · exact State.movePointer_holds h hm now _
    · exact hsilence
    · exact State.movePointer_holds h hm now _

theorem State.closeWindow_holds (hL : ImageLaw L) (h : s.Holds L c) (now : Instant) (origin : StationId) (records : List Record) :
    (s.closeWindow c now origin records).Holds L c := by
  have hdrawn : (s.setFree (s.free + 1)).Holds L c := h.congr rfl rfl rfl (.inr ⟨.inl rfl, rfl⟩)
  have hhanded : ∀ u : State, u.Holds L c → (u.handOver c origin records).Holds L c :=
    fun u hu => hu.congr (by simp) (by simp) (by simp) (.inr (by simp))
  unfold State.closeWindow
  (repeat' split)
  · exact State.cycleEnd_holds hL (hhanded _ hdrawn) now
  · exact hhanded _ (State.cycleEnd_holds hL hdrawn now)
  · exact State.cycleEnd_holds hL h now

theorem State.finish_holds (hL : ImageLaw L) (h : s.Holds L c) (now : Instant) (closing : Bool) (origin : StationId)
    (records : List Record) : (s.finish c now closing origin records).Holds L c := by
  unfold State.finish
  split
  · exact State.closeWindow_holds hL h now origin records
  · exact h.congr (by simp) (by simp) (by simp) (.inr (by simp))

theorem State.frameEnd_holds (hL : ImageLaw L) (h : s.Holds L c) (hon : s.receiverOn = true) (now : Instant) (line : List Bool)
    (inWindow : Bool) : (s.frameEnd c now line inWindow).Holds L c := by
  have hended : (s.setTi { s.ti with receiving := none }).abandonArmedJoin.Holds L c :=
    State.abandonArmedJoin_holds (h.congr_on hon rfl rfl rfl rfl rfl)
  have hended_on : (s.setTi { s.ti with receiving := none }).abandonArmedJoin.receiverOn = true :=
    (State.receiverOn_congr (by simp)).trans hon
  unfold State.frameEnd
  refine State.finish_holds hL (State.takeDeferredLeave_holds (State.refreshArmed_holds (State.settle_holds ?_ _ _ _))) _ _ _ _
  split
  · exact State.ownFrameEnd_holds hL hended hended_on
  · exact State.classify_holds hL hended hended_on _ _ _ _

/-! ### Founding -/

theorem foundingImage_lawful (c : StationConfig) : (foundingImage c).lawful = true := by
  cases hrun : c.autorun <;>
    simp [Image.lawful, Image.rosterOk, Image.queueOk, Image.captureOk, Image.gatherOk, Image.haltedOk, foundingImage, Image.ids,
      idsAscending, distinctRequesters, hrun]

theorem State.found_holds (hL : ImageLaw L) (now : Instant) : (s.found c now).Holds L c := by
  have hlaw := hL.lawful (foundingImage_lawful c)
  unfold State.found
  dsimp only
  rw [State.openCycle_of_image (m := foundingImage c) rfl]
  refine State.slotBegins_holds (m := foundingImage c) ?_ rfl now
  exact .member _ _ rfl rfl hlaw (by simp [Image.lists, Image.ids, foundingImage]) rfl hlaw rfl (.inl rfl)

/-! ### Every command -/

/-- What LOADING, IDLE and FAULT hold: no image, the CT STOPPED, the transmitter IDLE, the receiver off. -/
def State.isOff (s : State) : Prop := s.iu = .empty ∧ s.ct = .stopped ∧ s.ti.tx = .idle ∧ s.ti.receiving = none

/-- A station without a configuration is off the trunk; one with a configuration holds what its state says. -/
def State.Placed (L : Image → Prop) (s : State) : Prop := (s.cfg = none → s.isOff) ∧ ∀ c, s.cfg = some c → s.Holds L c

theorem State.Placed.congr (h : s.Placed L) (hcfg : t.cfg = s.cfg) (hstate : t.sc.state = s.sc.state) (hiu : t.iu = s.iu)
    (hct : t.ct = s.ct) (hti : t.ti = s.ti) : t.Placed L := by
  refine ⟨fun hc => ?_, fun c hc => (h.2 c (hcfg ▸ hc)).congr hstate hiu hct (.inr (by simp [hti]))⟩
  have hoff := h.1 (hcfg ▸ hc)
  rwa [State.isOff, hiu, hct, hti]

/-- What a configured operation gives. -/
theorem State.Placed.configured {f : StationConfig → State} (h : s.Placed L) (hcfg : ∀ c, (f c).cfg = s.cfg)
    (hf : ∀ c, s.cfg = some c → s.Holds L c → (f c).Holds L c) : (s.configured f).Placed L := by
  refine State.configured_keeps h fun c hc => ⟨fun hnone => ?_, fun d hd => ?_⟩
  · simp [hcfg, hc] at hnone
  · rw [hcfg, hc] at hd
    cases hd
    exact hf c hc (h.2 c hc)

theorem State.Placed.port {effect : State} (h : s.Placed L) (he : effect.Placed L) : (s.portCommand effect).Placed L :=
  State.portCommand_keeps h he

/-- An operation that a station off the trunk does not see. -/
theorem State.Placed.of_on (h : s.Placed L) (hcfg : t.cfg = s.cfg) (hoff : s.isOff → t = s) (hon : ∀ c, s.Holds L c → t.Holds L c) :
    t.Placed L := by
  refine ⟨fun hc => ?_, fun c hc => hon c (h.2 c (hcfg ▸ hc))⟩
  have hs := h.1 (hcfg ▸ hc)
  rwa [hoff hs]

theorem State.failLoad_placed (s : State) (reason : FaultReason) : (s.failLoad reason).Placed L :=
  ⟨fun _ => ⟨rfl, rfl, rfl, rfl⟩, fun _ _ => State.failLoad_holds reason⟩

theorem State.resetBy_placed (s : State) (cause : ResetCause) (hold : Hold) (low : Bool) : (s.resetBy cause hold low).Placed L :=
  ⟨fun _ => ⟨rfl, rfl, rfl, rfl⟩, fun c hc => by cases hc⟩

@[simp] theorem State.goodLoad_cfg (s : State) (c : StationConfig) (now : Instant) : (s.goodLoad c now).cfg = some c := by
  unfold State.goodLoad State.leaveLoading
  dsimp only
  split <;> simp

theorem State.goodLoad_holds (hoff : s.isOff) (now : Instant) : (s.goodLoad c now).Holds L c := by
  obtain ⟨hiu, hct, htx, hrx⟩ := hoff
  unfold State.goodLoad State.leaveLoading
  dsimp only
  split
  · exact .off (.inl rfl) hiu hct htx hrx
  · exact State.listenUntimed_holds now
  · exact State.listenUntimed_holds now

theorem State.takeJoin_holds (h : s.Holds L c) (hc : s.cfg = some c) (now : Instant) : (s.takeJoin now).Holds L c := by
  unfold State.takeJoin
  split
  next d _ hd =>
    rw [hc] at hd
    cases hd
    exact .untimed rfl rfl rfl rfl rfl
  next => split <;> exact h.congr rfl rfl rfl (.inr ⟨.inl rfl, rfl⟩)
  all_goals exact h.congr rfl rfl rfl (.inr ⟨.inl rfl, rfl⟩)

@[simp] theorem State.restartFounding_state (s : State) (c : StationConfig) (now : Instant) :
    (s.restartFounding c now).sc.state = s.sc.state := by
  unfold State.restartFounding
  split <;> simp

@[simp] theorem State.hearSelf_ct_state (s : State) (c : StationConfig) : (s.hearSelf c).ct.state = s.ct.state := by
  unfold State.hearSelf
  split <;> rfl

@[simp] theorem State.takePhase_ct_state (s : State) (c : StationConfig) (samples : Samples) (p : PhasePlan) (k : Mark) :
    (s.takePhase c samples p k).ct.state = s.ct.state := by
  unfold State.takePhase
  dsimp only
  split <;> rfl

theorem CycleTimer.retimed_state (t : CycleTimer) (c : StationConfig) (now : Instant) : (t.retimed c now).state = t.state := by
  unfold CycleTimer.retimed
  (repeat' split) <;> rfl

theorem State.takeLeaveCommand_holds (h : s.Holds L c) : s.takeLeaveCommand.Holds L c := by
  have hleft := State.takeLeave_holds h
  unfold State.takeLeaveCommand
  (repeat' split)
  next => exact h.congr rfl rfl rfl (.inr ⟨.inl rfl, rfl⟩)
  next => exact h.congr rfl rfl rfl (.inr ⟨.inl rfl, rfl⟩)
  next => exact h.congr rfl rfl rfl (.inr ⟨.inl rfl, rfl⟩)
  next => exact h.congr rfl rfl rfl (.inr ⟨.inl rfl, rfl⟩)
  next => exact hleft.congr rfl rfl rfl (.inr ⟨.inl rfl, rfl⟩)
  next => exact h.congr rfl rfl rfl (.inr ⟨.inl rfl, rfl⟩)
  next => exact hleft.congr rfl rfl rfl (.inr ⟨.inl rfl, rfl⟩)
  next => exact h.congr rfl rfl rfl (.inr ⟨.inl rfl, rfl⟩)
  next => exact hleft.congr rfl rfl rfl (.inr ⟨.inl rfl, rfl⟩)

/-- A station without a configuration is LOADING, or at FAULT after a load that failed. -/
theorem State.loadAgrees.unconfigured (hload : s.loadAgrees) (hc : s.cfg = none) : s.sc.state = .loading ∨ s.sc.state = .fault := by
  obtain ⟨hloading, hdone, hfailed, -, -⟩ := hload
  by_cases hphase : s.ld.phase = .failed
  · exact .inr (hfailed hphase)
  · exact .inl (hloading.2 ⟨by simpa [hc] using hdone, hphase⟩)

theorem State.takeJoin_of_unconfigured (hload : s.loadAgrees) (hc : s.cfg = none) (now : Instant) :
    s.takeJoin now = s.respond .wrongState [] := by
  rcases hload.unconfigured hc with hs | hs <;> simp [State.takeJoin, hs]

theorem State.takeLeaveCommand_of_unconfigured (hload : s.loadAgrees) (hc : s.cfg = none) :
    s.takeLeaveCommand = s.respond .wrongState [] := by
  rcases hload.unconfigured hc with hs | hs <;> simp [State.takeLeaveCommand, hs]

/-- Every command keeps what the blocks hold in each state, with the law of the images. -/
theorem State.after_placed (hL : ImageLaw L) (hload : s.loadAgrees) (h : s.Placed L) (i : Instr) : (s.after i).Placed L := by
  obtain ⟨t, ht, -⟩ := everyStepAnswersANextState.1 i s
  rw [State.after_of_exec ht]
  cases i with
  | powerOn | resetnLow => cases ht; exact State.resetBy_placed _ _ _ _
  | selectRelease now =>
    cases ht
    split
    · exact (State.resetBy_placed s .command .none s.rc.resetnLow).congr rfl rfl rfl rfl rfl
    · exact h.congr rfl rfl rfl rfl rfl
  | powerOnDelayExpiry | resetnRise | imageByte =>
    cases ht
    (repeat' split) <;> exact h.congr rfl rfl rfl rfl rfl
  | busClear =>
    cases ht
    (repeat' split)
    · exact State.failLoad_placed _ _
    all_goals exact h.congr rfl rfl rfl rfl rfl
  | addressByte =>
    cases ht
    split
    · by_cases hack : ‹Bool› = true
      · rw [if_pos hack]
        exact h.congr rfl rfl rfl rfl rfl
      · rw [if_neg hack]
        exact State.failLoad_placed _ _
    · exact h
  | loadTimeout =>
    cases ht
    split
    · exact State.failLoad_placed _ _
    · exact h
  | checking now =>
    cases ht
    split
    next hphase =>
      split
      · exact State.failLoad_placed _ _
      next c _ =>
        have hoff : s.isOff := h.1 (by simpa [hphase] using hload.2.1)
        refine ⟨fun hc => ?_, fun d hd => ?_⟩
        · simp [State.goodLoad_cfg] at hc
        · rw [State.goodLoad_cfg] at hd
          cases hd
          exact State.goodLoad_holds hoff now
    next => exact h
  | frameStart now =>
    cases ht
    refine h.configured (fun c => ?_) fun c _ hh => ?_
    · dsimp only
      (repeat' split) <;> simp
    · split
      next hon =>
        have hstarted : ((s.setTi { s.ti with receiving := some (s.ct.state == .window) }).restartFounding c now).Holds L c :=
          hh.congr_on hon.1 (by simp) (by simp) (by simp) (by simp) (by simp)
        generalize (s.setTi { s.ti with receiving := some (s.ct.state == .window) }).restartFounding c now = u at hstarted
        dsimp only
        split
        next => exact State.openCycle_holds hstarted now true
        next hct =>
          obtain ⟨m, hm⟩ := hstarted.image_of_timed (.inl hct)
          exact hstarted.retimed hm rfl rfl (.inl ((CycleTimer.retimed_state _ _ _).trans hct))
        next hct =>
          obtain ⟨m, hm⟩ := hstarted.image_of_timed (.inr (.inl hct))
          exact hstarted.retimed hm rfl rfl (.inr (.inl ((CycleTimer.retimed_state _ _ _).trans hct)))
        next => exact hstarted
        next => exact hstarted
      next => exact hh
  | frameEnd now line =>
    cases ht
    refine h.configured (fun c => ?_) fun c _ hh => ?_
    · (repeat' split) <;> simp
    · (repeat' split)
      next hon => exact State.frameEnd_holds hL hh hon _ _ _
      all_goals exact hh
  | frameBegin now =>
    cases ht
    refine h.configured (fun c => ?_) fun c _ hh => ?_
    · (repeat' split) <;> simp
    · (repeat' split)
      next htx _ _ =>
        have hon := hh.on_of_tx (by simp [htx])
        exact hh.congr_on hon (by simp) (by simp) (by simp) (by simp) (by simp)
      all_goals exact hh
  | arbitrationLoss =>
    cases ht
    refine h.of_on (by (repeat' split) <;> simp) (fun hoff => if_neg (by simp [hoff.2.2.1])) fun c hh => ?_
    (repeat' split)
    · exact State.goDoubtful_holds (State.giveUpFrame_holds hh)
    · exact State.giveUpFrame_holds hh
    · exact hh
  | startGuardExpiry =>
    cases ht
    refine h.of_on (by split <;> simp) (fun hoff => if_neg (by simp [hoff.2.2.1])) fun c hh => ?_
    split
    · exact State.giveUpFrame_holds hh
    · exact hh
  | readbackMismatch =>
    cases ht
    refine h.of_on (by (repeat' split) <;> simp) (fun hoff => if_neg (by simp [State.frameInFlight, hoff.2.2.1])) fun c hh => ?_
    split
    next hflight =>
      have hon := hh.on_of_tx (by intro hidle; simp [State.frameInFlight, hidle] at hflight)
      dsimp only
      split
      · exact State.goDoubtful_holds (hh.congr_on hon rfl rfl rfl rfl rfl)
      · exact hh.congr_on hon rfl rfl rfl rfl rfl
    next => exact hh
  | abortMarkEnd =>
    cases ht
    refine h.of_on (by (repeat' split) <;> simp) (fun hoff => if_neg (by simp [hoff.2.2.1])) fun c hh => ?_
    (repeat' split)
    · exact State.enterFault_holds _
    · exact State.takeDeferredLeave_holds (State.giveUpFrame_holds hh)
    · exact hh
  | slotPasses =>
    cases ht
    refine h.configured (fun c => by split <;> simp) fun c _ hh => ?_
    split
    next hct _ =>
      obtain ⟨m, hm⟩ := hh.image_of_timed (.inl hct)
      exact State.movePointer_holds hh hm _ _
    next => exact hh
  | joinWindowTimerExpiry =>
    cases ht
    refine h.configured (fun c => by split <;> simp) fun c _ hh => ?_
    split
    · exact State.cycleEnd_holds hL hh _
    · exact hh
  | cycleOpening =>
    cases ht
    refine h.configured (fun c => by split <;> simp) fun c _ hh => ?_
    split
    · exact State.openCycle_holds hh _ _
    · exact hh
  | phase =>
    cases ht
    refine h.configured (fun c => by (repeat' split) <;> simp) fun c _ hh => ?_
    split
    · split
      next hmember =>
        exact hh.congr_on (by simp [State.receiverOn, hmember.1]) (by simp) (by simp) (by simp) (by simp) (by simp)
      next => exact hh
    · exact hh
  | conversionComplete =>
    cases ht
    refine h.configured (fun c => by dsimp only; (repeat' split) <;> simp) fun c _ hh => ?_
    (repeat' split)
    all_goals exact hh.congr (by simp) (by simp) (by simp) (.inr (by simp))
  | trigRisingEdge =>
    cases ht
    exact h.configured (fun c => by simp) fun c _ hh => hh.congr (by simp) (by simp) (by simp) (.inr (by simp))
  | foundingTimerExpiry =>
    cases ht
    refine h.configured (fun c => by (repeat' split) <;> simp) fun c _ hh => ?_
    (repeat' split)
    · exact State.found_holds hL _
    all_goals exact hh.congr rfl rfl rfl (.inr ⟨.inl rfl, rfl⟩)
  | holdoffExpiry => cases ht; exact h.congr rfl rfl rfl rfl rfl
  | join now =>
    cases ht
    refine h.port ⟨fun hc => ?_, fun c hc => State.takeJoin_holds (h.2 c (by simpa using hc)) (by simpa using hc) now⟩
    have hnone : s.cfg = none := by simpa using hc
    rw [State.takeJoin_of_unconfigured hload hnone]
    exact h.1 hnone
  | leave =>
    cases ht
    refine h.port ⟨fun hc => ?_, fun c hc => State.takeLeaveCommand_holds (h.2 c (by simpa using hc))⟩
    have hnone : s.cfg = none := by simpa using hc
    rw [State.takeLeaveCommand_of_unconfigured hload hnone]
    exact h.1 hnone
  | _ => cases ht; exact h.port (h.congr (by simp) (by simp) (by simp) (by simp) (by simp))

/-! ### The statements -/

theorem ImageLaw.none : ImageLaw fun _ => True := ⟨fun _ _ _ _ => trivial, fun _ _ _ _ _ _ _ => trivial, fun _ => trivial⟩

/-- R2, R117: the roster and queue laws. -/
theorem ImageLaw.laws : ImageLaw Image.laws :=
  ⟨fun k sender item h => Image.arrive_laws h k sender item, fun k heard plan d n h hne => Image.cycleEnd_laws h k heard plan d n hne,
    Image.lawful_laws⟩

theorem State.Holds.trunkAgrees (h : s.Holds L c) (hc : s.cfg = some c) : s.trunkAgrees := by
  unfold State.trunkAgrees
  cases h with
  | off state unit timer tx rx => rcases state with state | state <;> simp [state, unit, timer, tx, rx]
  | untimed state image copy certainty timer => simp [state, image, copy, certainty, timer]
  | tracking m state image _ copy certainty timer =>
    rcases state with state | state <;> simp [state, image, copy, certainty, timer]
  | member m k state image _ lists copy _ certainty timer =>
    simp [state, image, copy, certainty, timer, State.listsSelf, hc, lists]

theorem State.Placed.trunkAgrees (h : s.Placed L) (hload : s.loadAgrees) : s.trunkAgrees := by
  cases hc : s.cfg with
  | none =>
    unfold State.trunkAgrees
    rcases hload.unconfigured hc with hs | hs <;> simpa [hs, State.isOff] using h.1 hc
  | some c => exact (h.2 c hc).trunkAgrees hc

theorem State.Placed.imagesOk (h : s.Placed Image.laws) : s.imagesOk := by
  cases hc : s.cfg with
  | none => simp [State.imagesOk, (h.1 hc).1, ImageUnit.empty]
  | some c =>
    refine ⟨fun m hm => (h.2 c hc).law hm, fun m hm => ?_⟩
    cases h.2 c hc with
    | off _ unit => simp [unit, ImageUnit.empty] at hm
    | untimed _ _ copy | tracking _ _ _ _ copy => simp [copy] at hm
    | member _ k _ _ _ _ copy copyLaw => rw [copy] at hm; cases hm; exact copyLaw

/-- Blocks that agree hold what the station state says, with every law that the images obey. -/
theorem State.agrees.placed (h : s.agrees) (himage : ∀ m, s.iu.image = some m → L m) (hcopy : ∀ m, s.iu.copy = some m → L m) :
    s.Placed L := by
  obtain ⟨hload, htrunk⟩ := h
  refine ⟨fun hc => ?_, fun c hc => ?_⟩
  · rcases hload.unconfigured hc with hs | hs <;> simpa [State.trunkAgrees, hs, State.isOff] using htrunk
  · have hdone : s.ld.phase = .done := hload.2.1.1 (by simp [hc])
    unfold State.trunkAgrees at htrunk
    split at htrunk
    next hs => exact absurd hdone (hload.1.1 hs).1
    next hs =>
      obtain ⟨unit, timer, tx, rx⟩ := htrunk
      exact .off (.inl hs) unit timer tx rx
    next hs =>
      obtain ⟨unit, timer, tx, rx⟩ := htrunk
      exact .off (.inr hs) unit timer tx rx
    next hs =>
      obtain ⟨copy, certainty, ⟨image, timer⟩ | ⟨image, timer⟩⟩ := htrunk
      · exact .untimed hs image copy certainty timer
      · obtain ⟨m, hm⟩ := Option.isSome_iff_exists.1 image
        exact .tracking m (.inl hs) hm (himage m hm) copy certainty timer
    next hs =>
      obtain ⟨image, copy, certainty, timer⟩ := htrunk
      obtain ⟨m, hm⟩ := Option.isSome_iff_exists.1 image
      exact .tracking m (.inr hs) hm (himage m hm) copy certainty timer
    next hs =>
      obtain ⟨image, copy, certainty, timer, lists⟩ := htrunk
      obtain ⟨m, hm⟩ := Option.isSome_iff_exists.1 image
      obtain ⟨k, hk⟩ := Option.isSome_iff_exists.1 copy
      exact .member m k hs hm (himage m hm) (lists c m hc hm) hk (hcopy k hk) certainty timer

theorem State.Holds.not_loading (h : s.Holds L c) : s.sc.state ≠ .loading := by
  cases h with
  | off state | tracking _ state => rcases state with state | state <;> simp [state]
  | untimed state => simp [state]
  | member _ _ state => simp [state]

/-- The load side of a command that leaves loader, configuration and hold alone: a configured station does not return to LOADING, and one without a configuration stays where it is. -/
theorem State.loadAgrees.kept (h : s.loadAgrees) (hld : t.ld = s.ld) (hcfg : t.cfg = s.cfg) (hrc : t.rc = s.rc)
    (hnone : s.cfg = none → t.sc.state = s.sc.state) (hsome : s.cfg.isSome → t.sc.state ≠ .loading) : t.loadAgrees := by
  obtain ⟨hloading, hdone, hfailed, htimer, hhold⟩ := h
  unfold State.loadAgrees
  rw [hld, hcfg, hrc]
  cases hc : s.cfg with
  | none =>
    rw [hnone hc]
    exact ⟨hloading, by rwa [← hc], hfailed, htimer, hhold⟩
  | some c =>
    have hphase : s.ld.phase = .done := hdone.1 (by simp [hc])
    have hstate := hsome (by simp [hc])
    exact ⟨by simp [hphase, hstate], by simp [hphase], by simp [hphase], htimer, hhold⟩

/-- A load in progress: LOADING, no configuration, and no hold. -/
theorem State.loadAgrees.loading (h : s.loadAgrees) (hdone : s.ld.phase ≠ .done) (hfailed : s.ld.phase ≠ .failed)
    (hld : s.ld ≠ .afterReset) : s.sc.state = .loading ∧ s.cfg = none ∧ s.rc.hold = .none := by
  obtain ⟨hstate, hcfg, -, -, hhold⟩ := h
  exact ⟨hstate.2 ⟨hdone, hfailed⟩, by simpa [hdone] using hcfg, by_contra fun hne => hld (hhold hne)⟩

@[simp] theorem State.enterFault_state (s : State) (reason : FaultReason) : (s.enterFault reason).sc.state = .fault := rfl

theorem State.failLoad_loadAgrees (h : s.loadAgrees) (hdone : s.ld.phase ≠ .done) (hfailed : s.ld.phase ≠ .failed)
    (hld : s.ld ≠ .afterReset) (reason : FaultReason) : (s.failLoad reason).loadAgrees := by
  obtain ⟨-, hcfg, hhold⟩ := h.loading hdone hfailed hld
  simp [State.loadAgrees, State.failLoad, hcfg, hhold]

theorem State.setLd_loadAgrees (h : s.loadAgrees) (hdone : s.ld.phase ≠ .done) (hfailed : s.ld.phase ≠ .failed)
    (hld : s.ld ≠ .afterReset) {x : Loader} (hx : x.phase ≠ .done) (hx' : x.phase ≠ .failed)
    (htimer : x.timer.isSome → x.phase = .starting ∨ x.phase = .addressing ∨ x.phase = .reading) : (s.setLd x).loadAgrees := by
  obtain ⟨hstate, hcfg, hhold⟩ := h.loading hdone hfailed hld
  simpa [State.loadAgrees, hstate, hcfg, hhold, hx, hx'] using htimer

theorem State.startLoading_loadAgrees (hstate : s.sc.state = .loading) (hcfg : s.cfg = none) (now : Instant) :
    (s.startLoading now).loadAgrees := by
  simp [State.loadAgrees, State.startLoading, Loader.afterReset, hstate, hcfg]

theorem State.resetBy_loadAgrees (s : State) (cause : ResetCause) (hold : Hold) (low : Bool) : (s.resetBy cause hold low).loadAgrees := by
  simp [State.loadAgrees, State.resetBy, State.reset, StationController.afterReset, Loader.afterReset]

/-- A station that waits in a hold is LOADING, its loader as a reset leaves it. -/
theorem State.loadAgrees.held (h : s.loadAgrees) (hhold : s.rc.hold ≠ .none) :
    s.ld = .afterReset ∧ s.sc.state = .loading ∧ s.cfg = none := by
  obtain ⟨hstate, hcfg, -, -, hld⟩ := h
  have hreset := hld hhold
  exact ⟨hreset, by simp [hstate, hreset, Loader.afterReset], by simpa [hreset, Loader.afterReset] using hcfg⟩

theorem State.goodLoad_loadAgrees (h : s.loadAgrees) (hphase : s.ld.phase = .checking) (c : StationConfig) (now : Instant) :
    (s.goodLoad c now).loadAgrees := by
  obtain ⟨-, -, hhold⟩ := h.loading (by simp [hphase]) (by simp [hphase]) (fun heq => by simp [heq, Loader.afterReset] at hphase)
  have htimer : s.ld.timer.isSome = false := by simpa [hphase] using h.2.2.2.1
  unfold State.goodLoad State.leaveLoading
  dsimp only
  split <;> simp [State.loadAgrees, State.listenUntimed, hhold, htimer]

/-- Without a configuration the commands that are not of reset and load leave the station state. -/
theorem State.after_state_of_unconfigured (hload : s.loadAgrees) (hc : s.cfg = none) (hoff : s.isOff) {i : Instr}
    (hi : match i with
      | .powerOn | .resetnLow | .selectRelease _ | .powerOnDelayExpiry _ | .resetnRise _ | .busClear _ | .addressByte _
      | .imageByte _ | .loadTimeout | .checking _ => False
      | _ => True) : (s.after i).sc.state = s.sc.state := by
  obtain ⟨-, -, htx, -⟩ := hoff
  cases i with
  | powerOn | resetnLow | selectRelease | powerOnDelayExpiry | resetnRise | busClear | addressByte | imageByte | loadTimeout
  | checking => exact hi.elim
  | arbitrationLoss | readbackMismatch | abortMarkEnd | startGuardExpiry =>
    simp [State.after, exec, execArbitrationLoss, execReadbackMismatch, execAbortMarkEnd, execStartGuardExpiry,
      State.frameInFlight, htx]
  | holdoffExpiry => rfl
  | join now =>
    refine State.portCommand_keeps (P := fun t => t.sc.state = s.sc.state) rfl ?_
    rw [State.takeJoin_of_unconfigured hload hc]
    rfl
  | leave =>
    refine State.portCommand_keeps (P := fun t => t.sc.state = s.sc.state) rfl ?_
    rw [State.takeLeaveCommand_of_unconfigured hload hc]
    rfl
  | status | events | roster | read | release | close | capture | halt | resumeCommand | reset | unknown =>
    exact State.portCommand_keeps (P := fun t => t.sc.state = s.sc.state) rfl (by simp)
  | _ => exact congrArg (fun t : State => t.sc.state) (State.configured_none hc _)

/-- Every command keeps load phase, configuration and hold in agreement with the station state. -/
theorem State.after_loadAgrees (h : s.agrees) (i : Instr) : (s.after i).loadAgrees := by
  obtain ⟨hload, htrunk⟩ := id h
  have hbefore : s.Placed fun _ => True := h.placed (fun _ _ => trivial) fun _ _ => trivial
  have hoff := hbefore.1
  have hplaced := State.after_placed ImageLaw.none hload hbefore i
  obtain ⟨t, ht, -, hrc, hld, -⟩ := everyStepAnswersANextState.1 i s
  rw [State.after_of_exec ht] at hplaced ⊢
  cases i with
  | powerOn | resetnLow => cases ht; exact State.resetBy_loadAgrees _ _ _ _
  | selectRelease now =>
    cases ht
    split
    · exact State.startLoading_loadAgrees rfl rfl now
    · exact hload
  | powerOnDelayExpiry now =>
    cases ht
    split
    next hhold =>
      obtain ⟨hreset, hstate, hcfg⟩ := hload.held (by simp [hhold])
      split
      · simp [State.loadAgrees, hreset, hstate, hcfg, Loader.afterReset]
      · exact State.startLoading_loadAgrees hstate hcfg now
    next => exact hload
  | resetnRise now =>
    cases ht
    split
    next hhold =>
      obtain ⟨-, hstate, hcfg⟩ := hload.held (by simp [hhold])
      exact State.startLoading_loadAgrees hstate hcfg now
    next => exact hload
  | busClear sdaLow =>
    cases ht
    split
    next hphase =>
      obtain ⟨hstart, htimer⟩ := hphase
      have hne : s.ld ≠ .afterReset := fun heq => by simp [heq, Loader.afterReset] at htimer
      split
      · exact State.failLoad_loadAgrees hload (by simp [hstart]) (by simp [hstart]) hne _
      · exact State.setLd_loadAgrees hload (by simp [hstart]) (by simp [hstart]) hne (by simp) (by simp) (by simp)
    next => exact hload
  | addressByte acknowledged =>
    cases ht
    split
    next hphase =>
      have hne : s.ld ≠ .afterReset := fun heq => by simp [heq, Loader.afterReset] at hphase
      split
      · refine State.setLd_loadAgrees hload (by simp [hphase]) (by simp [hphase]) hne ?_ ?_ ?_ <;> split <;> simp
      · exact State.failLoad_loadAgrees hload (by simp [hphase]) (by simp [hphase]) hne _
    next => exact hload
  | imageByte =>
    cases ht
    split
    next hphase =>
      have hne : s.ld ≠ .afterReset := fun heq => by simp [heq, Loader.afterReset] at hphase
      refine State.setLd_loadAgrees hload (by simp [hphase]) (by simp [hphase]) hne ?_ ?_ ?_ <;> dsimp only <;> split <;> simp
    next => exact hload
  | loadTimeout =>
    cases ht
    split
    next htimer =>
      have hphase := hload.2.2.2.1 htimer
      have hne : s.ld ≠ .afterReset := fun heq => by simp [heq, Loader.afterReset] at htimer
      refine State.failLoad_loadAgrees hload ?_ ?_ hne _ <;> rcases hphase with hp | hp | hp <;> simp [hp]
    next => exact hload
  | checking now =>
    cases ht
    split
    next hphase =>
      have hne : s.ld ≠ .afterReset := fun heq => by simp [heq, Loader.afterReset] at hphase
      split
      · exact State.failLoad_loadAgrees hload (by simp [hphase]) (by simp [hphase]) hne _
      · exact State.goodLoad_loadAgrees hload hphase _ now
    next => exact hload
  | _ =>
    obtain ⟨hldEq, hcfg, -⟩ := hld
    refine hload.kept hldEq hcfg hrc (fun hc => ?_) fun hc => ?_
    · rw [← State.after_of_exec ht]
      exact State.after_state_of_unconfigured hload hc (hoff hc) trivial
    · obtain ⟨c, hc⟩ := Option.isSome_iff_exists.1 hc
      exact (hplaced.2 c (hcfg.trans hc)).not_loading

theorem State.idleStep_placed (h : s.Placed L) : s.idleStep.Placed L := by
  refine h.of_on (by simp) (fun hoff => if_neg (by simp [hoff.2.2.1])) fun c hh => ?_
  unfold State.idleStep
  split
  next htx => exact hh.congr_on (hh.on_of_tx (by simp [htx])) rfl rfl rfl rfl rfl
  next => exact hh

/-- Settles O59. -/
theorem everyStepKeepsTheImageLaws : Obligations.EveryStepKeepsTheImageLaws := by
  intro s t hagrees hlaws hstep
  refine step_leads (P := fun s => s.agrees ∧ s.imagesOk) (fun _ _ h => h) (fun s h => ?_) (fun s i h => ?_) ⟨hagrees, hlaws⟩ hstep
  · simpa [State.imagesOk] using h.2
  · exact State.Placed.imagesOk (State.after_placed ImageLaw.laws h.1.1 (h.1.placed h.2.1 h.2.2) i)

/-- What the blocks hold agrees after every step. -/
theorem step_agrees (hagrees : s.agrees) (hstep : step s = .next t) : t.agrees := by
  refine step_keeps (P := State.agrees) (fun _ _ h => h) (fun s h => ?_) (fun s i h => ?_) hagrees hstep
  · have hload : s.idleStep.loadAgrees := by simpa [State.loadAgrees] using h.1
    exact ⟨hload, (State.idleStep_placed (h.placed (L := fun _ => True) (fun _ _ => trivial) fun _ _ => trivial)).trunkAgrees hload⟩
  · have hload := State.after_loadAgrees h i
    exact ⟨hload, (State.after_placed ImageLaw.none h.1 (h.placed (fun _ _ => trivial) fun _ _ => trivial) i).trunkAgrees hload⟩

end Sys2Proof.Machine
end

section
/-! The counts of R51 and R72 stay within 255; the statements on what blocks agree, and on the reset state. -/

open Sys2Proof

namespace Sys2Proof.Machine
/-! ### The counts of R51 and R72 -/

section Counts

variable (s : State)

@[simp] theorem TrunkInterface.noFrame_counts (t : TrunkInterface) :
    t.noFrame.errors = t.errors ∧ t.noFrame.foreign = t.foreign ∧ t.noFrame.inconsistent = t.inconsistent := ⟨rfl, rfl, rfl⟩

@[simp] theorem TrunkInterface.dropArmed_counts (t : TrunkInterface) :
    t.dropArmed.errors = t.errors ∧ t.dropArmed.foreign = t.foreign ∧ t.dropArmed.inconsistent = t.inconsistent := by
  unfold TrunkInterface.dropArmed
  split <;> simp

@[simp] theorem TrunkInterface.matched_counts (t : TrunkInterface) :
    t.matched.errors = t.errors ∧ t.matched.foreign = t.foreign ∧ t.matched.inconsistent = t.inconsistent := ⟨rfl, rfl, rfl⟩

@[simp] theorem State.leaveMember_counts :
    s.leaveMember.ti.errors = s.ti.errors ∧ s.leaveMember.ti.foreign = s.ti.foreign ∧
      s.leaveMember.ti.inconsistent = s.ti.inconsistent ∧ s.leaveMember.sc.refusedJoins = s.sc.refusedJoins := by
  simp [State.leaveMember]

@[simp] theorem State.offTrunk_counts :
    s.offTrunk.ti.errors = s.ti.errors ∧ s.offTrunk.ti.foreign = s.ti.foreign ∧
      s.offTrunk.ti.inconsistent = s.ti.inconsistent := by
  simp [State.offTrunk]

@[simp] theorem State.enterIdle_counts :
    s.enterIdle.ti.errors = s.ti.errors ∧ s.enterIdle.ti.foreign = s.ti.foreign ∧
      s.enterIdle.ti.inconsistent = s.ti.inconsistent ∧ s.enterIdle.sc.refusedJoins = s.sc.refusedJoins := by
  simp [State.enterIdle]

@[simp] theorem State.enterFault_counts (reason : FaultReason) :
    (s.enterFault reason).ti.errors = s.ti.errors ∧ (s.enterFault reason).ti.foreign = s.ti.foreign ∧
      (s.enterFault reason).ti.inconsistent = s.ti.inconsistent ∧
      (s.enterFault reason).sc.refusedJoins = s.sc.refusedJoins := by
  unfold State.enterFault
  split <;> simp

@[simp] theorem State.listenUntimed_counts (c : StationConfig) (now : Instant) :
    (s.listenUntimed c now).sc.refusedJoins = s.sc.refusedJoins := by
  simp [State.listenUntimed]

@[simp] theorem State.assembleBeat_counts (c : StationConfig) (now : Instant) :
    (s.assembleBeat c now).ti.errors = s.ti.errors ∧ (s.assembleBeat c now).ti.foreign = s.ti.foreign ∧
      (s.assembleBeat c now).ti.inconsistent = s.ti.inconsistent := by
  unfold State.assembleBeat
  (repeat' split) <;> simp

@[simp] theorem State.slotBegins_counts (c : StationConfig) (now : Instant) :
    (s.slotBegins c now).ti.errors = s.ti.errors ∧ (s.slotBegins c now).ti.foreign = s.ti.foreign ∧
      (s.slotBegins c now).ti.inconsistent = s.ti.inconsistent := by
  unfold State.slotBegins
  dsimp only
  (repeat' split) <;> simp

@[simp] theorem State.judgeJoin_counts (c : StationConfig) (now : Instant) :
    (s.judgeJoin c now).ti.errors = s.ti.errors ∧ (s.judgeJoin c now).ti.foreign = s.ti.foreign ∧
      (s.judgeJoin c now).ti.inconsistent = s.ti.inconsistent ∧ (s.judgeJoin c now).sc.refusedJoins = s.sc.refusedJoins := by
  unfold State.judgeJoin
  (repeat' split) <;> simp

@[simp] theorem State.windowOpens_counts (c : StationConfig) (now : Instant) :
    (s.windowOpens c now).ti.errors = s.ti.errors ∧ (s.windowOpens c now).ti.foreign = s.ti.foreign ∧
      (s.windowOpens c now).ti.inconsistent = s.ti.inconsistent ∧
      (s.windowOpens c now).sc.refusedJoins = s.sc.refusedJoins := by
  unfold State.windowOpens
  dsimp only
  split <;> simp

@[simp] theorem State.movePointer_counts (c : StationConfig) (now : Instant) (p : Nat) :
    (s.movePointer c now p).ti.errors = s.ti.errors ∧ (s.movePointer c now p).ti.foreign = s.ti.foreign ∧
      (s.movePointer c now p).ti.inconsistent = s.ti.inconsistent ∧
      (s.movePointer c now p).sc.refusedJoins = s.sc.refusedJoins := by
  unfold State.movePointer
  dsimp only
  split <;> simp

@[simp] theorem State.openCycle_counts (c : StationConfig) (now : Instant) (byFrame : Bool) :
    (s.openCycle c now byFrame).ti.errors = s.ti.errors ∧ (s.openCycle c now byFrame).ti.foreign = s.ti.foreign ∧
      (s.openCycle c now byFrame).ti.inconsistent = s.ti.inconsistent := by
  unfold State.openCycle
  split <;> simp

@[simp] theorem State.timerCycleEnd_counts (c : StationConfig) (now : Instant) :
    (s.timerCycleEnd c now).ti.errors = s.ti.errors ∧ (s.timerCycleEnd c now).ti.foreign = s.ti.foreign ∧
      (s.timerCycleEnd c now).ti.inconsistent = s.ti.inconsistent := by
  unfold State.timerCycleEnd
  (repeat' split) <;> simp

@[simp] theorem State.failAttempt_counts (c : StationConfig) (now : Instant) :
    (s.failAttempt c now).ti.errors = s.ti.errors ∧ (s.failAttempt c now).ti.foreign = s.ti.foreign ∧
      (s.failAttempt c now).ti.inconsistent = s.ti.inconsistent ∧
      (s.failAttempt c now).sc.refusedJoins = s.sc.refusedJoins := by
  unfold State.failAttempt
  (repeat' split) <;> simp

@[simp] theorem State.trackedCycleEnd_counts (c : StationConfig) (now : Instant) (emptied : Bool) (m' : Image) :
    (s.trackedCycleEnd c now emptied m').ti.errors = s.ti.errors ∧
      (s.trackedCycleEnd c now emptied m').ti.foreign = s.ti.foreign ∧
      (s.trackedCycleEnd c now emptied m').ti.inconsistent = s.ti.inconsistent ∧
      (s.trackedCycleEnd c now emptied m').sc.refusedJoins = s.sc.refusedJoins := by
  unfold State.trackedCycleEnd
  dsimp only
  (repeat' split) <;> simp

@[simp] theorem State.leftByLeave_counts :
    s.leftByLeave.ti.errors = s.ti.errors ∧ s.leftByLeave.ti.foreign = s.ti.foreign ∧
      s.leftByLeave.ti.inconsistent = s.ti.inconsistent ∧ s.leftByLeave.sc.refusedJoins = s.sc.refusedJoins := by
  simp [State.leftByLeave]

@[simp] theorem State.evicted_counts (c : StationConfig) (now : Instant) :
    (s.evicted c now).ti.errors = s.ti.errors ∧ (s.evicted c now).ti.foreign = s.ti.foreign ∧
      (s.evicted c now).ti.inconsistent = s.ti.inconsistent ∧ (s.evicted c now).sc.refusedJoins = s.sc.refusedJoins := by
  simp [State.evicted]

@[simp] theorem State.staysMember_counts (c : StationConfig) (now : Instant) (m after : Image) (change : HaltChange) :
    (s.staysMember c now m after change).ti.errors = s.ti.errors ∧
      (s.staysMember c now m after change).ti.foreign = s.ti.foreign ∧
      (s.staysMember c now m after change).ti.inconsistent = s.ti.inconsistent := by
  simp [State.staysMember]

@[simp] theorem State.giveUpFrame_counts :
    s.giveUpFrame.ti.errors = s.ti.errors ∧ s.giveUpFrame.ti.foreign = s.ti.foreign ∧
      s.giveUpFrame.ti.inconsistent = s.ti.inconsistent := by
  simp [State.giveUpFrame]

@[simp] theorem State.abandonArmedJoin_counts :
    s.abandonArmedJoin.ti.errors = s.ti.errors ∧ s.abandonArmedJoin.ti.foreign = s.ti.foreign ∧
      s.abandonArmedJoin.ti.inconsistent = s.ti.inconsistent := by
  unfold State.abandonArmedJoin
  split <;> simp

@[simp] theorem State.refreshArmed_counts :
    s.refreshArmed.ti.errors = s.ti.errors ∧ s.refreshArmed.ti.foreign = s.ti.foreign ∧
      s.refreshArmed.ti.inconsistent = s.ti.inconsistent := by
  unfold State.refreshArmed
  (repeat' split) <;> simp

@[simp] theorem State.takeLeave_counts :
    s.takeLeave.ti.errors = s.ti.errors ∧ s.takeLeave.ti.foreign = s.ti.foreign ∧
      s.takeLeave.ti.inconsistent = s.ti.inconsistent ∧ s.takeLeave.sc.refusedJoins = s.sc.refusedJoins := by
  unfold State.takeLeave
  split <;> simp

@[simp] theorem State.takeDeferredLeave_counts :
    s.takeDeferredLeave.ti.errors = s.ti.errors ∧ s.takeDeferredLeave.ti.foreign = s.ti.foreign ∧
      s.takeDeferredLeave.ti.inconsistent = s.ti.inconsistent ∧ s.takeDeferredLeave.sc.refusedJoins = s.sc.refusedJoins := by
  unfold State.takeDeferredLeave
  split <;> simp

@[simp] theorem State.listenTracking_counts (c : StationConfig) (now : Instant) (summary : Image) :
    (s.listenTracking c now summary).sc.refusedJoins = s.sc.refusedJoins := by
  simp [State.listenTracking]

@[simp] theorem State.evictedByAdoption_counts (c : StationConfig) (now : Instant) (closing : Bool) (sender : StationId)
    (summary : Image) :
    (s.evictedByAdoption c now closing sender summary).ti.errors = s.ti.errors ∧
      (s.evictedByAdoption c now closing sender summary).ti.foreign = s.ti.foreign ∧
      (s.evictedByAdoption c now closing sender summary).ti.inconsistent = s.ti.inconsistent ∧
      (s.evictedByAdoption c now closing sender summary).sc.refusedJoins = s.sc.refusedJoins := by
  simp [State.evictedByAdoption]

@[simp] theorem State.yieldTo_counts (c : StationConfig) (now : Instant) (closing : Bool) (sender : StationId)
    (summary : Image) :
    (s.yieldTo c now closing sender summary).ti.errors = s.ti.errors ∧
      (s.yieldTo c now closing sender summary).ti.foreign = s.ti.foreign ∧
      (s.yieldTo c now closing sender summary).ti.inconsistent = s.ti.inconsistent ∧
      (s.yieldTo c now closing sender summary).sc.refusedJoins = s.sc.refusedJoins := by
  simp [State.yieldTo]

@[simp] theorem State.confirmJoin_counts (c : StationConfig) (now : Instant) (closing known : Bool) (sender : StationId)
    (summary : Image) :
    (s.confirmJoin c now closing known sender summary).sc.refusedJoins = s.sc.refusedJoins := by
  simp [State.confirmJoin]

@[simp] theorem State.memberSummary_counts (c : StationConfig) (now : Instant) (closing : Bool) (sender : StationId)
    (summary m : Image) :
    (s.memberSummary c now closing sender summary m).1.ti.errors = s.ti.errors ∧
      (s.memberSummary c now closing sender summary m).1.ti.foreign = s.ti.foreign ∧
      (s.memberSummary c now closing sender summary m).1.ti.inconsistent = s.ti.inconsistent ∧
      (s.memberSummary c now closing sender summary m).1.sc.refusedJoins = s.sc.refusedJoins := by
  unfold State.memberSummary
  (repeat' split) <;> simp

@[simp] theorem State.takeSummary_counts (c : StationConfig) (now : Instant) (closing : Bool) (sender : StationId)
    (summary : Image) :
    (s.takeSummary c now closing sender summary).1.ti.errors = s.ti.errors ∧
      (s.takeSummary c now closing sender summary).1.ti.foreign = s.ti.foreign ∧
      (s.takeSummary c now closing sender summary).1.ti.inconsistent = s.ti.inconsistent ∧
      (s.takeSummary c now closing sender summary).1.sc.refusedJoins = s.sc.refusedJoins := by
  unfold State.takeSummary
  (repeat' split) <;> simp

@[simp] theorem State.ownBeatEnd_counts (c : StationConfig) (b : Beat) :
    (s.ownBeatEnd c b).state.ti.errors = s.ti.errors ∧ (s.ownBeatEnd c b).state.ti.foreign = s.ti.foreign ∧
      (s.ownBeatEnd c b).state.ti.inconsistent = s.ti.inconsistent := by
  simp [State.ownBeatEnd]

@[simp] theorem State.ownJoinEnd_counts (c : StationConfig) (digest : Digest) :
    (s.ownJoinEnd c digest).state.ti.errors = s.ti.errors ∧ (s.ownJoinEnd c digest).state.ti.foreign = s.ti.foreign ∧
      (s.ownJoinEnd c digest).state.ti.inconsistent = s.ti.inconsistent ∧
      (s.ownJoinEnd c digest).state.sc.refusedJoins = s.sc.refusedJoins := by
  unfold State.ownJoinEnd
  dsimp only
  split <;> simp

@[simp] theorem State.ownFrameEnd_counts (c : StationConfig) :
    (s.ownFrameEnd c).state.ti.errors = s.ti.errors ∧ (s.ownFrameEnd c).state.ti.foreign = s.ti.foreign ∧
      (s.ownFrameEnd c).state.ti.inconsistent = s.ti.inconsistent ∧
      (s.ownFrameEnd c).state.sc.refusedJoins = s.sc.refusedJoins := by
  unfold State.ownFrameEnd
  (repeat' split) <;> simp

@[simp] theorem State.clashed_counts (c : StationConfig) :
    (s.clashed c).state.ti.errors = s.ti.errors ∧ (s.clashed c).state.ti.foreign = s.ti.foreign ∧
      (s.clashed c).state.ti.inconsistent = s.ti.inconsistent ∧ (s.clashed c).state.sc.refusedJoins = s.sc.refusedJoins := by
  simp [State.clashed]

@[simp] theorem State.settle_counts (c : StationConfig) (now : Instant) (closing : Bool) (timing : Timing) :
    (s.settle c now closing timing).ti.errors = s.ti.errors ∧ (s.settle c now closing timing).ti.foreign = s.ti.foreign ∧
      (s.settle c now closing timing).ti.inconsistent = s.ti.inconsistent ∧
      (s.settle c now closing timing).sc.refusedJoins = s.sc.refusedJoins := by
  unfold State.settle
  (repeat' split) <;> simp

@[simp] theorem State.restartFounding_counts (c : StationConfig) (now : Instant) :
    (s.restartFounding c now).sc.refusedJoins = s.sc.refusedJoins := by
  unfold State.restartFounding
  split <;> simp

@[simp] theorem State.found_counts (c : StationConfig) (now : Instant) :
    (s.found c now).ti.errors = s.ti.errors ∧ (s.found c now).ti.foreign = s.ti.foreign ∧
      (s.found c now).ti.inconsistent = s.ti.inconsistent ∧ (s.found c now).sc.refusedJoins = s.sc.refusedJoins := by
  simp [State.found]

@[simp] theorem State.failLoad_counts (reason : FaultReason) :
    (s.failLoad reason).ti.errors = s.ti.errors ∧ (s.failLoad reason).ti.foreign = s.ti.foreign ∧
      (s.failLoad reason).ti.inconsistent = s.ti.inconsistent ∧ (s.failLoad reason).sc.refusedJoins = s.sc.refusedJoins := by
  simp [State.failLoad]

@[simp] theorem State.leaveLoading_counts (c : StationConfig) (now : Instant) :
    (s.leaveLoading c now).sc.refusedJoins = s.sc.refusedJoins := by
  unfold State.leaveLoading
  split <;> simp

@[simp] theorem State.goodLoad_counts (c : StationConfig) (now : Instant) :
    (s.goodLoad c now).sc.refusedJoins = s.sc.refusedJoins := by
  simp [State.goodLoad]

@[simp] theorem State.takeJoin_counts (now : Instant) :
    (s.takeJoin now).sc.refusedJoins = s.sc.refusedJoins := by
  unfold State.takeJoin
  (repeat' split) <;> simp

@[simp] theorem State.takeLeaveCommand_counts :
    s.takeLeaveCommand.ti.errors = s.ti.errors ∧ s.takeLeaveCommand.ti.foreign = s.ti.foreign ∧
      s.takeLeaveCommand.ti.inconsistent = s.ti.inconsistent ∧ s.takeLeaveCommand.sc.refusedJoins = s.sc.refusedJoins := by
  unfold State.takeLeaveCommand
  (repeat' split) <;> simp

end Counts

section CountsBounded

variable {s : State} (h : s.countsBounded)
include h

/-- The counts stay within their bounds where they stay as they are. -/
theorem State.countsBounded.of_eq {t : State} (h1 : t.ti.errors = s.ti.errors) (h2 : t.ti.foreign = s.ti.foreign)
    (h3 : t.ti.inconsistent = s.ti.inconsistent) (h4 : t.sc.refusedJoins = s.sc.refusedJoins) : t.countsBounded := by
  rwa [State.countsBounded, h1, h2, h3, h4]

theorem State.countInconsistent_countsBounded : s.countInconsistent.countsBounded := by
  obtain ⟨herrors, hforeign, -, hrefused⟩ := h
  exact ⟨herrors, hforeign, saturate255_le _, hrefused⟩

theorem State.receiveError_countsBounded : s.receiveError.countsBounded := by
  obtain ⟨-, hforeign, hinconsistent, hrefused⟩ := h
  simpa [State.countsBounded, State.receiveError, saturate255_le] using ⟨hforeign, hinconsistent, hrefused⟩

theorem State.memberCycleEnd_countsBounded (c : StationConfig) (now : Instant) (m m' : Image) :
    (s.memberCycleEnd c now m m').countsBounded := by
  have hcounted : ∀ refused, (s.countRefusedJoin refused).countsBounded := by
    intro refused
    unfold State.countRefusedJoin
    split
    · exact ⟨h.1, h.2.1, h.2.2.1, saturate255_le _⟩
    · exact h
  unfold State.memberCycleEnd
  dsimp only
  (repeat' split) <;> exact (hcounted (m.refusesJoin s.iu.marks s.ct.heard)).of_eq (by simp) (by simp) (by simp) (by simp)

theorem State.cycleEnd_countsBounded (c : StationConfig) (now : Instant) : (s.cycleEnd c now).countsBounded := by
  unfold State.cycleEnd
  dsimp only
  (repeat' split)
  · exact State.memberCycleEnd_countsBounded (h.of_eq (by simp) (by simp) (by simp) (by simp)) c now _ _
  · exact h.of_eq (by simp) (by simp) (by simp) (by simp)
  · exact h

theorem State.listedBeat_countsBounded (c : StationConfig) (m : Image) (p : Nat) (outcome : SummaryOutcome) (b : Beat) :
    (s.listedBeat c m p outcome b).countsBounded := by
  have hcounted := State.countInconsistent_countsBounded h
  unfold State.listedBeat
  dsimp only
  (repeat' split)
  · exact hcounted.of_eq (by simp) (by simp) (by simp) (by simp)
  · exact hcounted
  · exact h.of_eq (by simp) (by simp) (by simp) (by simp)

theorem State.structureFailed_countsBounded (b : Beat) : (s.structureFailed b).state.countsBounded := by
  have hcounted := State.countInconsistent_countsBounded h
  unfold State.structureFailed
  dsimp only
  split <;> exact hcounted

theorem State.soundBeat_countsBounded (c : StationConfig) (now : Instant) (closing : Bool) (b : Beat) :
    (s.soundBeat c now closing b).state.countsBounded := by
  obtain ⟨⟨u, outcome⟩, hu⟩ : ∃ step, s.summaryStep c now closing b = step := ⟨_, rfl⟩
  have hstep : u.countsBounded := by
    cases hb : b.summary with
    | none => rw [State.summaryStep_none hb] at hu; cases hu; exact h
    | some x =>
      rw [State.summaryStep_some hb] at hu
      have hcounts := s.takeSummary_counts c now closing b.sender x
      rw [hu] at hcounts
      exact h.of_eq hcounts.1 hcounts.2.1 hcounts.2.2.1 hcounts.2.2.2
  cases hm : u.iu.image with
  | none => rwa [State.soundBeat_unplaced hu hm]
  | some m =>
    cases hp : m.position b.sender with
    | none =>
      rw [State.soundBeat_foreign hu hm hp]
      exact ⟨hstep.1, saturate255_le _, hstep.2.2.1, hstep.2.2.2⟩
    | some p =>
      rw [State.soundBeat_listed hu hm hp]
      exact (State.listedBeat_countsBounded hstep c m p outcome b).of_eq (by simp) (by simp) (by simp) (by simp)

theorem State.classify_countsBounded (c : StationConfig) (now : Instant) (closing inWindow : Bool) (line : List Bool) :
    (s.classify c now closing inWindow line).state.countsBounded := by
  unfold State.classify
  (repeat' split)
  next => exact State.receiveError_countsBounded h
  next => exact State.receiveError_countsBounded h
  next => exact h.of_eq (by simp) (by simp) (by simp) (by simp)
  next =>
    unfold State.joinHeard
    split
    · exact h
    · exact State.countInconsistent_countsBounded h
  next => exact h.of_eq (by simp) (by simp) (by simp) (by simp)
  next => exact State.soundBeat_countsBounded h c now closing _
  next => exact State.structureFailed_countsBounded h _

theorem State.closeWindow_countsBounded (c : StationConfig) (now : Instant) (origin : StationId) (records : List Record) :
    (s.closeWindow c now origin records).countsBounded := by
  have hhanded : ∀ u : State, u.countsBounded → (u.handOver c origin records).countsBounded :=
    fun u hu => hu.of_eq (by simp) (by simp) (by simp) (by simp)
  have hdrawn : (s.setFree (s.free + 1)).countsBounded := h
  unfold State.closeWindow
  (repeat' split)
  · exact State.cycleEnd_countsBounded (hhanded _ hdrawn) c now
  · exact hhanded _ (State.cycleEnd_countsBounded hdrawn c now)
  · exact State.cycleEnd_countsBounded h c now

theorem State.frameEnd_countsBounded (c : StationConfig) (now : Instant) (line : List Bool) (inWindow : Bool) :
    (s.frameEnd c now line inWindow).countsBounded := by
  refine State.frameEnd_keeps (P := State.countsBounded) ?_ (fun u hu => ?_) (fun u closing hu => ?_)
    (fun u closing timing hu => ?_) (fun u hu => ?_) (fun u hu => ?_) (fun u closing origin records hu => ?_)
  case refine_3 => exact State.classify_countsBounded hu c now closing inWindow line
  case refine_7 =>
    unfold State.finish
    split
    · exact State.closeWindow_countsBounded hu c now origin records
    · exact hu.of_eq (by simp) (by simp) (by simp) (by simp)
  case refine_1 => exact h.of_eq (by simp) (by simp) (by simp) (by simp)
  all_goals exact hu.of_eq (by simp) (by simp) (by simp) (by simp)

/-- Every command keeps the counts within their bounds: what a command counts saturates. -/
theorem State.after_countsBounded (i : Instr) : (s.after i).countsBounded := by
  have hreset : State.reset.countsBounded := by
    simp [State.countsBounded, State.reset, TrunkInterface.afterReset, StationController.afterReset]
  cases i with
  | powerOn | resetnLow => exact hreset
  | selectRelease now =>
    simp only [State.after, exec, execSelectRelease]
    split
    · exact hreset
    · exact h
  | powerOnDelayExpiry | resetnRise | busClear | addressByte | imageByte | loadTimeout | checking =>
    simp only [State.after, exec, execPowerOnDelayExpiry, execResetnRise, execBusClear, execAddressByte, execImageByte,
      execLoadTimeout, execChecking, State.startLoading]
    (repeat' split) <;> exact h.of_eq (by simp) (by simp) (by simp) (by simp)
  | frameEnd now line =>
    refine State.configured_keeps h fun c _ => ?_
    (repeat' split)
    · exact State.frameEnd_countsBounded h c now line _
    all_goals exact h
  | joinWindowTimerExpiry =>
    refine State.configured_keeps h fun c _ => ?_
    split
    · exact State.cycleEnd_countsBounded h c _
    · exact h
  | arbitrationLoss | readbackMismatch | abortMarkEnd | startGuardExpiry | holdoffExpiry =>
    simp only [State.after, exec, execArbitrationLoss, execReadbackMismatch, execAbortMarkEnd, execStartGuardExpiry,
      execHoldoffExpiry]
    (repeat' split) <;> exact h.of_eq (by simp) (by simp) (by simp) (by simp)
  | frameStart =>
    refine State.configured_keeps h fun c _ => ?_
    dsimp only
    (repeat' split) <;> exact h.of_eq (by simp) (by simp) (by simp) (by simp)
  | frameBegin | slotPasses | cycleOpening | phase | conversionComplete | trigRisingEdge | foundingTimerExpiry =>
    refine State.configured_keeps h fun c _ => ?_
    (repeat' split) <;> exact h.of_eq (by simp) (by simp) (by simp) (by simp)
  | status | events | roster | read | release | close | capture | halt | resumeCommand | join | leave | reset | unknown =>
    exact State.portCommand_keeps h (h.of_eq (by simp) (by simp) (by simp) (by simp))

end CountsBounded

/-- Settles O57. -/
theorem everyStepKeepsBlocksAgreeing : Obligations.EveryStepKeepsBlocksAgreeing := by
  intro s t hstep
  refine ⟨fun hagrees => step_agrees hagrees hstep, fun hcounts => ?_⟩
  refine step_keeps (P := State.countsBounded) (fun _ _ h => h) (fun s h => ?_) (fun s i h => State.after_countsBounded h i) hcounts hstep
  unfold State.idleStep
  split <;> exact h

/-- Settles O60. -/
theorem resetStateHasResetValuesAndLaws : Obligations.ResetStateHasResetValuesAndLaws := by
  have hload : State.reset.loadAgrees := State.resetBy_loadAgrees State.reset .powerOn .powerOnDelay false
  have hplaced : State.reset.Placed Image.laws := State.resetBy_placed State.reset .powerOn .powerOnDelay false
  refine ⟨⟨?values, rfl, rfl, rfl⟩, DeliveryUnit.afterReset_wf, RecordTransport.empty_wf, ⟨hload, hplaced.trunkAgrees hload⟩, ?counts,
    ?pending, hplaced.imagesOk⟩
  case values => repeat' constructor
  case counts => exact ⟨by decide, by decide, by decide, by decide⟩
  case pending => simp [State.pendingSetOk, State.reset, ItemBuffer.afterReset, ItemBuffer.isEmpty]

end Sys2Proof.Machine
end

section
/-! Resets and the load of the configuration image (R177 to R187). -/

open Sys2Proof

namespace Sys2Proof.Machine

/-! ### Resets -/

theorem State.resetBy_hasResetValues (s : State) (cause : ResetCause) (hold : Hold) (low : Bool) :
    (s.resetBy cause hold low).hasResetValues := by
  repeat' constructor

theorem State.resetBy_alert (s : State) (cause : ResetCause) (hold : Hold) (low : Bool) : (s.resetBy cause hold low).alert = false := by
  simp [State.alert, State.resetBy, State.reset, CollectorPort.afterReset]

/-- Settles O3. -/
theorem resetSourcesGiveResetValues : Obligations.ResetSourcesGiveResetValues := by
  intro s now
  refine ⟨⟨_, rfl, s.resetBy_hasResetValues _ _ _, rfl, rfl, rfl, rfl, rfl, s.resetBy_alert _ _ _, rfl⟩,
    ⟨_, rfl, s.resetBy_hasResetValues _ _ _, rfl, rfl, rfl, rfl, rfl, rfl, s.resetBy_alert _ _ _, rfl⟩, fun hreset => ?_⟩
  exact ⟨_, congrArg Host.Outcome.next (if_pos hreset), s.resetBy_hasResetValues .command .none s.rc.resetnLow, rfl, rfl, rfl, rfl, rfl,
    s.resetBy_alert .command .none s.rc.resetnLow⟩

/-! ### The steps of the transfer -/

/-- Settles O4. -/
theorem loadingStartsAndTakesItsSteps : Obligations.LoadingStartsAndTakesItsSteps := by
  refine ⟨fun s now => ⟨fun hhold hlow => ?_, fun hhold => ?_⟩,
    fun s b => ⟨fun hphase htimer => ?_, fun hphase hcount => ?_, fun hphase hcount => ?_, fun hphase hcount => ?_,
      fun hphase hcount => ?_⟩, fun l => ⟨fun htimer => ?_, fun htimer => ⟨fun hphase => ?_, fun hphase => ?_, fun hphase => ?_⟩⟩⟩
  · exact congrArg Host.Outcome.next ((if_pos hhold).trans (if_neg (by simp [hlow])))
  · exact congrArg Host.Outcome.next (if_pos hhold)
  · simp [exec, execBusClear, hphase, htimer]
  · simp [exec, execAddressByte, hphase, show ¬ 4 ≤ s.ld.addressed + 1 by omega]
  · simp [exec, execAddressByte, hphase, hcount]
  · simp [exec, execImageByte, hphase, show ¬ 72 ≤ s.ld.count + 1 by omega]
  · simp [exec, execImageByte, hphase, hcount]
  · simp [Loader.sends, htimer]
  · simp [Loader.sends, Option.isSome_iff_ne_none.1 htimer, hphase]
  · have hbytes : addressBytes = [0xA0, 0, 0, 0xA1] := by decide
    refine ⟨fun hn => ?_, fun hn => ?_, fun hn => ?_, fun hn => ?_⟩ <;>
      simp [Loader.sends, Option.isSome_iff_ne_none.1 htimer, hphase, hn, hbytes]
  · refine ⟨fun hn => ?_, fun hn => ?_⟩
    · simp [Loader.sends, Option.isSome_iff_ne_none.1 htimer, hphase, show l.count + 1 < 72 by omega]
    · simp [Loader.sends, Option.isSome_iff_ne_none.1 htimer, hphase, hn]

/-! ### The end of the load -/

/-- R181: the fault reason of the first check that fails. -/
theorem checkImage_error {b : List Byte} {reason : FaultReason}
    (h : (reason = .imageCrc ∧ crc32 (b.take 68) ≠ imageCrc b) ∨
      (reason = .imageVersion ∧ crc32 (b.take 68) = imageCrc b ∧ imageByteAt b 0 ≠ 1) ∨
      (reason = .imageRange ∧ crc32 (b.take 68) = imageCrc b ∧ imageByteAt b 0 = 1 ∧
        ∀ f, fieldsOf b = some f → configInRange f = false)) : checkImage b = .error reason := by
  rcases h with ⟨rfl, hcrc⟩ | ⟨rfl, hcrc, hversion⟩ | ⟨rfl, hcrc, hversion, hrange⟩
  · simp [checkImage, hcrc]
  · simp only [checkImage, hcrc, bne_self_eq_false, Bool.false_eq_true, if_false, bne_iff_ne, ne_eq, hversion, not_false_eq_true, if_true]
  · cases hf : fieldsOf b with
    | none => simp [checkImage, hcrc, hversion, hf]
    | some f => simp [checkImage, hcrc, hversion, hf, hrange f hf]

/-- Settles O5. -/
theorem loadFailsWithItsReason : Obligations.LoadFailsWithItsReason := by
  intro c s now reason hloading hcases
  have hfails : exec c s = .next (s.failLoad reason) := by
    rcases hcases with ⟨rfl, ⟨rfl, hphase, htimer⟩ | ⟨rfl, hphase⟩ | ⟨rfl, htimer⟩⟩ | ⟨rfl, hphase, hreason⟩
    · simp [exec, execBusClear, hphase, htimer]
    · simp [exec, execAddressByte, hphase]
    · simp [exec, execLoadTimeout, htimer]
    · simp [exec, execChecking, hphase, checkImage_error hreason]
  have hfault := State.enterFault_of_not_member (s := s.setLd { s.ld with phase := .failed, bytes := [], timer := none })
    (by simp [hloading]) reason
  refine ⟨_, hfails, ?_⟩
  rw [State.failLoad, hfault]
  exact ⟨rfl, rfl, rfl, rfl, rfl, rfl, rfl, rfl, rfl, rfl, rfl, rfl, rfl, rfl, rfl, rfl, rfl, rfl⟩

/-- R181: a good image has every field in its range, and its plan digest is R184's. -/
theorem checkImage_ok {b : List Byte} {c : StationConfig} (h : checkImage b = .ok c) :
    ∃ f, fieldsOf b = some f ∧ configInRange f = true ∧ c = { f with digest := crc32 (digestBytes f) } := by
  unfold checkImage at h
  split at h
  · cases h
  split at h
  · cases h
  split at h
  next f hf =>
    split at h
    next hrange => exact ⟨f, hf, hrange, by cases h; rfl⟩
    next => cases h
  next => cases h

/-- The close age limit is one byte of the image. -/
theorem fieldsOf_closeAgeLimit {b : List Byte} {f : StationConfig} (h : fieldsOf b = some f) : f.closeAgeLimit ≤ 255 := by
  unfold fieldsOf at h
  cases hmode : joinModeOfCode (imageByteAt b 2).toNat with
  | none => simp [hmode] at h
  | some mode =>
    simp only [hmode, Option.bind_eq_bind, Option.bind_some] at h
    split at h
    · cases h
      exact Nat.le_of_lt_succ (imageByteAt b 65).isLt
    · cases h

theorem totalOk_iff (n : Nat) : totalOk n = true ↔ 1 ≤ n ∧ n ≤ 8 := by simp [totalOk]

/-- R182, R185: the period of a bit-rate class. -/
theorem periodInRange_iff (c : StationConfig) :
    periodInRange c = true ↔ (c.rate = 1 ∧ 24000 ≤ c.period ∨ c.rate = 2 ∧ 12000 ≤ c.period ∨ c.rate = 5 ∧ 5000 ≤ c.period ∨
      c.rate = 10 ∧ 2500 ≤ c.period) ∧ c.period ≤ 60000 := by
  unfold periodInRange
  generalize c.rate = rate
  by_cases h1 : rate = 1
  · simp [minimumPeriod, h1]
  by_cases h2 : rate = 2
  · simp [minimumPeriod, h2]
  by_cases h5 : rate = 5
  · simp [minimumPeriod, h5]
  by_cases h10 : rate = 10
  · simp [minimumPeriod, h10]
  · simp [minimumPeriod, h1, h2, h5, h10]

theorem offsetInRange_iff (x : Int) : offsetInRange x = true ↔ -512 ≤ x ∧ x ≤ 511 := by simp [offsetInRange]

/-- R190: an enabled window takes some kind and stays within the streams. -/
theorem windowInRange_iff (w : Window) :
    windowInRange w = true ↔ (w.enabled = true → (w.takesRegular = true ∨ w.takesPriority = true) ∧ w.base ≤ 127 ∧ w.limit ≤ 127) := by
  cases hw : w.enabled <;> simp [windowInRange, hw, Nat.lt_succ_iff, and_assoc]

theorem all_toList_get {α : Type} {n : Nat} {v : Vector α n} {p : α → Bool} (h : v.toList.all p = true) (k : Fin n) :
    p (v.get k) = true := by
  refine List.all_eq_true.1 h _ ?_
  simp [Vector.get]

/-- R182, R190: what the range check says of the fields. -/
theorem configInRange_fields {c : StationConfig} (h : configInRange c = true) :
    periodInRange c = true ∧ 8 ≤ c.silence ∧ c.silence ≤ 250 ∧ 1 ≤ c.plan.length ∧ c.plan.length ≤ 16 ∧ 1 ≤ c.group.length ∧
      c.group.length ≤ 4 ∧ totalOk c.externalTotal = true ∧ totalOk c.rangeTotal = true ∧ c.offsets.toList.all offsetInRange = true ∧
      c.rangeLow ≤ c.rangeHigh ∧ c.rangeHigh ≤ 4095 ∧ c.windows.toList.all windowInRange = true := by
  simpa only [configInRange, Bool.and_eq_true, decide_eq_true_eq, and_assoc] using h

/-- R182, R184, R190: the fields of a good image are in their ranges, and its digest is the one computed. -/
theorem checkImage_ok_fields {b : List Byte} {c : StationConfig} (h : checkImage b = .ok c) :
    (c.rate = 1 ∧ 24000 ≤ c.period ∨ c.rate = 2 ∧ 12000 ≤ c.period ∨ c.rate = 5 ∧ 5000 ≤ c.period ∨
        c.rate = 10 ∧ 2500 ≤ c.period) ∧
      c.period ≤ 60000 ∧ 8 ≤ c.silence ∧ c.silence ≤ 250 ∧ 1 ≤ c.plan.length ∧ c.plan.length ≤ 16 ∧ 1 ≤ c.group.length ∧
      c.group.length ≤ 4 ∧ 1 ≤ c.externalTotal ∧ c.externalTotal ≤ 8 ∧ 1 ≤ c.rangeTotal ∧ c.rangeTotal ≤ 8 ∧
      (∀ k : Fin 8, -512 ≤ c.offsets.get k ∧ c.offsets.get k ≤ 511) ∧ c.rangeLow ≤ c.rangeHigh ∧ c.rangeHigh ≤ 4095 ∧
      (∀ k : Fin 4, (c.windows.get k).enabled = true →
        ((c.windows.get k).takesRegular = true ∨ (c.windows.get k).takesPriority = true) ∧ (c.windows.get k).base ≤ 127 ∧
          (c.windows.get k).limit ≤ 127) ∧
      c.closeAgeLimit ≤ 255 ∧ c.digest = crc32 (digestBytes c) := by
  obtain ⟨f, hf, hrange, rfl⟩ := checkImage_ok h
  obtain ⟨hperiod, hs1, hs2, hp1, hp2, hg1, hg2, hext, hrng, hoffsets, hlow, hhigh, hwindows⟩ := configInRange_fields hrange
  have hclose := fieldsOf_closeAgeLimit hf
  obtain ⟨hclass, hmax⟩ := (periodInRange_iff f).1 hperiod
  obtain ⟨he1, he2⟩ := (totalOk_iff _).1 hext
  obtain ⟨hr1, hr2⟩ := (totalOk_iff _).1 hrng
  exact ⟨hclass, hmax, hs1, hs2, hp1, hp2, hg1, hg2, he1, he2, hr1, hr2, fun k => (offsetInRange_iff _).1 (all_toList_get hoffsets k),
    hlow, hhigh, fun k => (windowInRange_iff _).1 (all_toList_get hwindows k), hclose, rfl⟩

/-- Settles O6: the join mode names the state after the load. -/
theorem goodLoadHandsFieldsOver : Obligations.GoodLoadHandsFieldsOver := by
  refine ⟨fun s now c hphase hgood => ?_, fun b c h => checkImage_ok_fields h⟩
  refine ⟨s.goodLoad c now, by simp [exec, execChecking, hphase, hgood], ?_⟩
  unfold State.goodLoad State.leaveLoading
  cases c.joinMode <;> simp [State.listenUntimed, EventFlag.mask, EventFlag.bit, imageAlertMask, ImageUnit.empty] <;> rfl

end Sys2Proof.Machine
end

section
/-! The commands of the collector port (R165, R168, R171, R175, R131) and the bytes that spell them. -/

open Sys2Proof

namespace Sys2Proof.Machine

/-! ### HALT, RESUME, RESET, UNKNOWN and the end of a select -/

section Taken

variable {s : State} (h : s.portFree)
include h

theorem exec_halt_of_portFree : exec .halt s = .next s.takeHalt :=
  congrArg Host.Outcome.next (State.portCommand_taken (State.portTakes_of_portFree h) _)

theorem exec_resumeCommand_of_portFree : exec .resumeCommand s = .next s.takeResume :=
  congrArg Host.Outcome.next (State.portCommand_taken (State.portTakes_of_portFree h) _)

theorem exec_roster_of_portFree : exec .roster s = .next (s.drawn.respond .done (s.rosterResponse s.free)) :=
  congrArg Host.Outcome.next (State.portCommand_taken (State.portTakes_of_portFree h) _)

theorem exec_status_of_portFree : exec .status s = .next (s.drawn.respond .done (s.statusWord s.free)) :=
  congrArg Host.Outcome.next (State.portCommand_taken (State.portTakes_of_portFree h) _)

theorem exec_read_of_portFree (start : Byte) : exec (.read start) s = .next (s.readHalf start) :=
  congrArg Host.Outcome.next (State.portCommand_taken (State.portTakes_of_portFree h) _)

theorem exec_leave_of_portFree : exec .leave s = .next s.takeLeaveCommand :=
  congrArg Host.Outcome.next (State.portCommand_taken (State.portTakes_of_portFree h) _)

end Taken

/-- R131: the code of a post that takes the place of the opposite request. -/
theorem ResponseCode.byte_of_replaced (opposite : Bool) :
    (if opposite then ResponseCode.replaced else .done).byte = if opposite then 0x02 else 0x00 := by
  cases opposite <;> rfl

/-- Settles O14. -/
theorem haltAndResumeAreAnsweredInOrder : Obligations.HaltAndResumeAreAnsweredInOrder := by
  intro s hfree
  rw [exec_halt_of_portFree hfree, exec_resumeCommand_of_portFree hfree]
  refine ⟨fun hnot => ⟨?_, ?_⟩, fun hs => ⟨fun hheld => ?_, fun hheld => ?_, fun hheld => ?_, fun hheld => ?_⟩⟩
  · rw [State.takeHalt, if_pos hnot]; rfl
  · rw [State.takeResume, if_pos hnot]; rfl
  · rw [State.takeHalt, if_neg (not_not.2 hs), if_pos hheld]; rfl
  · rw [State.takeResume, if_neg (not_not.2 hs), if_pos hheld]; rfl
  · rw [State.takeHalt, if_neg (not_not.2 hs), if_neg (by simp [hheld]), State.respond, ResponseCode.byte_of_replaced]; rfl
  · rw [State.takeResume, if_neg (not_not.2 hs), if_neg (by simp [hheld]), State.respond, ResponseCode.byte_of_replaced]; rfl

/-- The port takes nothing while RESETn is low or once the select has carried a command. -/
theorem State.portTakes_of_busy {s : State} (h : s.rc.resetnLow = true ∨ s.cp.response.isSome) : s.portTakes = false := by
  rcases h with h | h
  · simp [State.portTakes, h]
  · simp [State.portTakes, Option.isNone_eq_false_iff.2 h]

/-- A command that the port does not take changes nothing. -/
theorem exec_of_portBusy {s : State} (h : s.rc.resetnLow = true ∨ s.cp.response.isSome) {i : Instr} {bytes : List Byte}
    (hi : encodePort i = some bytes) : exec i s = .next s := by
  have hignored := State.portCommand_ignored (State.portTakes_of_busy h)
  cases i with
  | status | events | roster | read | release | close | capture | halt | resumeCommand | join | leave | reset | unknown =>
    exact congrArg Host.Outcome.next (hignored _)
  | _ => cases hi

/-- Settles O17. -/
theorem selectTakesOneCommand : Obligations.SelectTakesOneCommand := by
  refine ⟨fun s code now => ⟨fun hfree => ⟨?_, ?_⟩, fun hreset => ?_⟩, fun s => ⟨fun hreleased => ⟨?_, ?_⟩, fun r hr hhigh => ⟨?_, ?_, ?_⟩⟩,
    fun i s bytes hbusy hi => exec_of_portBusy hbusy hi⟩
  · exact congrArg Host.Outcome.next (State.portCommand_taken (State.portTakes_of_portFree hfree) _)
  · exact congrArg Host.Outcome.next (State.portCommand_taken (State.portTakes_of_portFree hfree) _)
  · exact congrArg Host.Outcome.next (if_neg (by simp [hreset]))
  · rcases hreleased with h | h <;> simp [State.drivesMiso, h]
  · exact State.misoByte_released hreleased
  · simp [State.drivesMiso, hr, hhigh]
  · intro n x hx
    rw [State.misoByte_held hr hhigh, List.getD_eq_getElem?_getD, hx]
    rfl
  · intro n hn
    rw [State.misoByte_held hr hhigh, List.getD_eq_getElem?_getD, List.getElem?_eq_none hn]
    rfl

/-! ### Bytes with unnamed bits -/

/-- The named bits of a byte are those of its value, the others are free. -/
theorem getLsbD_partlyNamed (draw index : Nat) (named value : Byte) {k : Nat} (hk : named.getLsbD k = true) :
    (partlyNamed draw index named value).getLsbD k = value.getLsbD k := by
  have hlt : k < 8 := by
    by_contra hge
    rw [BitVec.getLsbD_of_ge named k (by omega)] at hk
    cases hk
  simp [partlyNamed, hk]

theorem partlyNamed_and (draw index : Nat) (named value : Byte) :
    partlyNamed draw index named value &&& named = value &&& named := by
  ext k hk
  by_cases hn : named.getLsbD k = true
  · have hbit := getLsbD_partlyNamed draw index named value hn
    simp only [BitVec.getLsbD_eq_getElem hk] at hbit hn
    simp [hbit, hn]
  · simp only [BitVec.getLsbD_eq_getElem hk, Bool.not_eq_true] at hn
    simp [hn]

/-- A field of named bits reads as in the value. -/
theorem extract_partlyNamed (draw index : Nat) (named value : Byte) {start n : Nat}
    (hn : ∀ k < n, named.getLsbD (start + k) = true) :
    (partlyNamed draw index named value).extractLsb' start n = value.extractLsb' start n := by
  ext k hk
  simpa using getLsbD_partlyNamed draw index named value (hn k hk)

theorem toNat_twoNibbles (high low : Nat) : (twoNibbles high low).toNat = high % 16 * 16 + low % 16 := by
  simp only [twoNibbles, BitVec.toNat_append, BitVec.toNat_ofNat]
  rw [Nat.shiftLeft_eq, Nat.mul_comm, ← Nat.two_pow_add_eq_or_of_lt (by omega)]

theorem toNat_extract_twoNibbles (high low start n : Nat) :
    ((twoNibbles high low).extractLsb' start n).toNat = (high % 16 * 16 + low % 16) / 2 ^ start % 2 ^ n := by
  rw [BitVec.extractLsb'_toNat, toNat_twoNibbles, Nat.shiftRight_eq_div_pow]

end Sys2Proof.Machine
end

section
/-! What ROSTER, READ and STATUS show (R165, R166, R170, R171, 12.4). -/

open Sys2Proof

namespace Sys2Proof.Machine

/-! ### ROSTER -/

theorem twoNibbles_zero_and (low : Nat) : twoNibbles 0 low &&& 0x0F#8 = BitVec.ofNat 8 low &&& 0x0F#8 := by
  apply BitVec.eq_of_toNat_eq
  have hmask (n : Nat) : n &&& 15 = n % 16 := Nat.and_two_pow_sub_one_eq_mod n 4
  rw [BitVec.toNat_and, BitVec.toNat_and, toNat_twoNibbles, BitVec.toNat_ofNat]
  simp only [BitVec.toNat_ofNat, hmask, Nat.reducePow, Nat.reduceMod]
  omega

/-- R171: the position byte is FFh outside MEMBER. -/
theorem State.ownPositionItem_of_not_member {s : State} (m : Image) (h : s.sc.state ≠ .member) : s.ownPositionItem m = none := by
  unfold State.ownPositionItem
  split
  · contradiction
  · rfl

/-- R171: a MEMBER's position is the one of its id in the roster. -/
theorem State.ownPositionItem_of_member {s : State} {c : StationConfig} (m : Image) (h : s.sc.state = .member) (hc : s.cfg = some c) :
    s.ownPositionItem m = m.position c.id := by
  rw [State.ownPositionItem, State.ownId, h, hc]
  rfl

/-- Settles O9. -/
theorem rosterShowsImageHeld : Obligations.RosterShowsImageHeld := by
  intro s hfree
  refine ⟨partlyNamed s.free 0 0x0F#8 (twoNibbles 0 s.kindAndCertainty), _, exec_roster_of_portFree hfree, ?_, ?_, ?_⟩
  · rw [partlyNamed_and, twoNibbles_zero_and]
  · intro hm
    rw [hm]
  · intro m hm
    refine ⟨orNone (s.ownPositionItem m), by rw [hm], fun hnot => ?_, fun c p hs hc hp => ?_⟩
    · rw [State.ownPositionItem_of_not_member m hnot]; rfl
    · rw [State.ownPositionItem_of_member m hs hc, hp]; rfl

/-! ### READ -/

@[simp] theorem length_bytesOf16 (w : Word16) : (bytesOf16 w).length = 2 := rfl

@[simp] theorem length_deliveredTail (r : Record) : (deliveredTail r).length = 4 := by
  unfold deliveredTail
  split <;> rfl

@[simp] theorem length_deliveredBytes (draw index : Nat) (d : Delivered) : (deliveredBytes draw index d).length = 8 := by
  simp [deliveredBytes]

@[simp] theorem length_deliveredFrom (draw index : Nat) (l : List Delivered) : (deliveredFrom draw index l).length = 8 * l.length := by
  induction l generalizing index with
  | nil => rfl
  | cons d rest ih => simp [deliveredFrom, ih]; omega

/-- Record `i` of a READ stands at byte `8 * i` of the records' bytes. -/
theorem drop_deliveredFrom (draw index : Nat) {l : List Delivered} {i : Nat} {d : Delivered} (h : l[i]? = some d) :
    (deliveredFrom draw index l).drop (8 * i) =
      deliveredBytes draw (index + 8 * i) d ++ deliveredFrom draw (index + 8 * i + 8) (l.drop (i + 1)) := by
  induction l generalizing index i with
  | nil => simp at h
  | cons x rest ih =>
    cases i with
    | zero => simp_all [deliveredFrom]
    | succ i =>
      have hrest : rest[i]? = some d := by simpa using h
      have hskip : (deliveredFrom draw index (x :: rest)).drop (8 * (i + 1)) = (deliveredFrom draw (index + 8) rest).drop (8 * i) := by
        rw [deliveredFrom, show 8 * (i + 1) = (deliveredBytes draw index x).length + 8 * i by simp; omega, List.drop_append]
        simp
      rw [hskip, ih (index + 8) hrest, show index + 8 + 8 * i = index + 8 * (i + 1) by omega]
      rfl

/-- The element that a fold keeps which moves to each element with a smaller measure. -/
theorem foldl_least {α : Type*} (f : α → Int) (best : α) (l : List α) :
    l.foldl (fun best x => if f x < f best then x else best) best ∈ best :: l ∧
      ∀ x ∈ best :: l, f (l.foldl (fun best x => if f x < f best then x else best) best) ≤ f x := by
  induction l generalizing best with
  | nil => simp
  | cons y rest ih =>
    obtain ⟨hmem, hle⟩ := ih (if f y < f best then y else best)
    have hbest := hle _ List.mem_cons_self
    refine ⟨?_, fun x hx => ?_⟩
    · rw [List.foldl_cons]
      rcases List.mem_cons.1 hmem with hkept | hlater
      · rw [hkept]
        split
        · exact List.mem_cons_of_mem _ List.mem_cons_self
        · exact List.mem_cons_self
      · exact List.mem_cons_of_mem _ (List.mem_cons_of_mem _ hlater)
    · rw [List.foldl_cons]
      have hstep : f (if f y < f best then y else best) ≤ f best ∧ f (if f y < f best then y else best) ≤ f y := by
        split <;> omega
      rcases List.mem_cons.1 hx with rfl | hx
      · exact hbest.trans hstep.1
      rcases List.mem_cons.1 hx with rfl | hx
      · exact hbest.trans hstep.2
      · exact hle x (List.mem_cons_of_mem _ hx)

theorem lowestCycle_least (first : Word16) (cycles : List Word16) :
    lowestCycle first cycles ∈ first :: cycles ∧
      ∀ x ∈ first :: cycles, cycleOffset first (lowestCycle first cycles) ≤ cycleOffset first x :=
  foldl_least (cycleOffset first) first cycles

theorem highestCycle_greatest (first : Word16) (cycles : List Word16) :
    highestCycle first cycles ∈ first :: cycles ∧
      ∀ x ∈ first :: cycles, cycleOffset first x ≤ cycleOffset first (highestCycle first cycles) := by
  have hfold : highestCycle first cycles =
      cycles.foldl (fun best x => if - cycleOffset first x < - cycleOffset first best then x else best) first := by
    simp only [highestCycle, neg_lt_neg_iff]
  obtain ⟨hmem, hle⟩ := foldl_least (fun x => - cycleOffset first x) first cycles
  rw [← hfold] at hmem hle
  exact ⟨hmem, fun x hx => neg_le_neg_iff.1 (hle x hx)⟩

/-- Bits 7, 1 and 0 are all that half id and close cause use. -/
theorem half_and_cause_and (h : HalfId) (cause : CloseCause) :
    twoNibbles (if h = .h1 then 8 else 0) cause.code &&& 0x83#8 = twoNibbles (if h = .h1 then 8 else 0) cause.code := by
  cases h <;> cases cause <;> rfl

/-- Origin and DROPPED use bits 7 to 4 and bit 0 alone. -/
theorem origin_and_dropped_and (i : StationId) (dropped : Bool) :
    twoNibbles i.val (if dropped then 1 else 0) &&& 0xF1#8 = twoNibbles i.val (if dropped then 1 else 0) := by
  cases dropped <;> decide +revert

/-- Settles O10. -/
theorem readAnswersFirstClosedHalf : Obligations.ReadAnswersFirstClosedHalf := by
  refine ⟨fun s start hfree => ⟨fun hnone => ?_, fun h r n cause hfirst hh => ?_⟩, fun first rest => ?_⟩
  · rw [exec_read_of_portFree hfree, State.readHalf, DeliveryUnit.firstClosed, hnone]
    rfl
  · have hclosed := DeliveryUnit.firstClosed_of_closed hfirst hh
    refine ⟨halfHeader s.free h r n cause, deliveredFrom s.free 8 (r.drop start.toNat), rfl, rfl, rfl, ?_, fun hle => ?_, fun hlt => ⟨?_, fun i d hd => ?_, ?_⟩⟩
    · simp [halfHeader, partlyNamed_and, half_and_cause_and]
    · rw [exec_read_of_portFree hfree, State.readHalf, hclosed]
      simp only [if_neg (Nat.not_lt.2 hle)]
      rfl
    · simp
    · have hdrop := drop_deliveredFrom s.free 8 hd
      have hbyte (k : Nat) : (deliveredFrom s.free 8 (r.drop start.toNat))[8 * i + k]? =
          ((deliveredFrom s.free 8 (r.drop start.toNat)).drop (8 * i))[k]? := by rw [List.getElem?_drop]
      refine ⟨?_, ?_, ?_⟩
      · rw [← Nat.add_zero (8 * i), hbyte, hdrop]; rfl
      · rw [hbyte, hdrop]
        simp [deliveredBytes, partlyNamed_and, origin_and_dropped_and]
      · rw [← List.drop_drop, hdrop]
        simp [deliveredBytes, List.take_append]
    · rw [exec_read_of_portFree hfree, State.readHalf, hclosed]
      simp only [if_pos hlt]
      rfl
  · have hsame : first ∈ first :: rest := List.mem_cons_self
    obtain ⟨hlow, hle⟩ := lowestCycle_least first (first :: rest)
    obtain ⟨hhigh, hge⟩ := highestCycle_greatest first (first :: rest)
    exact ⟨by simpa using hlow, by simpa using hhigh, fun x hx => ⟨hle x (List.mem_cons_of_mem _ hx), hge x (List.mem_cons_of_mem _ hx)⟩⟩

end Sys2Proof.Machine
end

section
/-! The status word of 12.4 (R170). -/

open Sys2Proof

namespace Sys2Proof.Machine

/-! ### The bytes of several fields -/

/-- A field of a byte of two nibbles, of which the byte names the bits. -/
theorem toNat_extract_partlyNamed (draw index : Nat) (named : Byte) (high low start n : Nat)
    (hn : ∀ k < n, named.getLsbD (start + k) = true) :
    ((partlyNamed draw index named (twoNibbles high low)).extractLsb' start n).toNat =
      (high % 16 * 16 + low % 16) / 2 ^ start % 2 ^ n := by
  rw [extract_partlyNamed draw index named _ hn, toNat_extract_twoNibbles]

theorem getLsbD_twoNibbles (high low k : Nat) : (twoNibbles high low).getLsbD k = ((high % 16 * 16 + low % 16) / 2 ^ k % 2 == 1) := by
  rw [BitVec.getLsbD, toNat_twoNibbles, Nat.testBit_eq_decide_div_mod_eq]
  rfl

theorem flagsByte_bit0 (b : Bool) : (flagsByte false false false false false false false b).getLsbD 0 = b := by
  cases b <;> rfl

theorem flagsByte_low_nibble (b3 b2 b1 b0 : Bool) :
    flagsByte false false false false b3 b2 b1 b0 &&& 0x0F#8 = byteOf false false false false b3 b2 b1 b0 := by
  cases b3 <;> cases b2 <;> cases b1 <;> cases b0 <;> rfl

/-- A byte of which bit 0 alone is named shows its flag there. -/
theorem partlyNamed_flag (draw index : Nat) (b : Bool) :
    (partlyNamed draw index 0x01#8 (flagsByte false false false false false false false b)).getLsbD 0 = b := by
  rw [getLsbD_partlyNamed draw index _ _ rfl, flagsByte_bit0]

theorem Certainty.code_lt (c : Option Certainty) : Certainty.code c < 3 := by
  rcases c with _ | _ | _ <;> decide

theorem CtState.code_lt (c : CtState) : c.code < 5 := by
  cases c <;> decide

theorem RunState.code_lt (r : Option RunState) : RunState.code r < 3 := by
  rcases r with _ | _ | _ <;> decide

theorem HaltOutcome.code_lt (o : HaltOutcome) : o.code < 4 := by
  cases o <;> decide

theorem ResetCause.code_lt (c : ResetCause) : c.code < 4 := by
  cases c <;> decide

theorem Half.code_lt (h : Half) : h.code < 3 := by
  cases h <;> simp [Half.code]

theorem HalfId.code_lt (h : Option HalfId) : HalfId.code h < 3 := by
  rcases h with _ | _ | _ <;> decide

theorem State.imageKind_lt (s : State) : s.imageKind < 3 := by
  unfold State.imageKind
  split <;> [split; skip] <;> omega

theorem State.ownRequestItem_lt (s : State) : s.ownRequestItem.1 < 3 := by
  unfold State.ownRequestItem
  repeat' split
  all_goals simp

theorem State.pendingRequestItem_lt (s : State) : s.pendingRequestItem < 3 := by
  unfold State.pendingRequestItem
  repeat' split
  all_goals decide

/-! ### The groups of bytes that depend on what the image holds -/

/-- Bytes 25 to 27 show the active capture. -/
theorem State.statusCapture_shows (s : State) (draw : Nat) : ∃ b25 b26 b27 : Byte, s.statusCapture draw = [b25, b26, b27] ∧
    (s.captureHeld = none → b25.getLsbD 7 = false) ∧
    ∀ k, s.captureHeld = some k → b25.getLsbD 7 = true ∧ (b25.extractLsb' 0 4).toNat = k.request.requester.val ∧
      b26 = k.request.serial ∧ b27 = twoNibbles k.request.total k.next := by
  rw [State.statusCapture]
  cases hk : s.captureHeld with
  | none =>
    refine ⟨_, _, _, rfl, fun _ => ?_, fun k h => nomatch h⟩
    rw [getLsbD_partlyNamed draw 25 _ _ rfl]
    rfl
  | some k =>
    refine ⟨_, _, _, rfl, by simp, fun k' h => ?_⟩
    obtain rfl := Option.some.inj h
    refine ⟨?_, ?_, rfl, rfl⟩
    · rw [getLsbD_partlyNamed draw 25 _ _ rfl, getLsbD_twoNibbles, beq_iff_eq]
      omega
    · rw [toNat_extract_partlyNamed draw 25 _ _ _ _ _ (by decide)]
      have := k.request.requester.isLt
      omega

/-- Bytes 32 to 36 show the halt gather. -/
theorem State.statusGather_shows (s : State) (draw : Nat) : ∃ b32 b33 b34 b35 b36 : Byte,
    s.statusGather draw = [b32, b33, b34, b35, b36] ∧
    ∀ g, s.gatherHeld = some g → [b32, b33, b34, b35, b36] = bytesOf16 g.required ++ bytesOf16 g.acked ++ [BitVec.ofNat 8 g.elapsed] := by
  rw [State.statusGather]
  cases hg : s.gatherHeld with
  | none => exact ⟨_, _, _, _, _, rfl, fun g h => nomatch h⟩
  | some g => exact ⟨_, _, _, _, _, rfl, fun g' h => by obtain rfl := Option.some.inj h; rfl⟩

/-- R97: the assigned entry is shown by a MEMBER that has one. -/
theorem State.assignedItem_of_member {s : State} {c : StationConfig} {p : PhasePlan} (hs : s.sc.state = .member)
    (hc : s.cfg = some c) (hp : s.ct.plan = some p) : s.assignedItem = p.assignedEntry c.plan.length := by
  rw [State.assignedItem, hs, hc, hp]

theorem State.assignedItem_eq_none {s : State}
    (h : s.sc.state ≠ .member ∨ ∀ c p, s.cfg = some c → s.ct.plan = some p → p.assignedEntry c.plan.length = none) :
    s.assignedItem = none := by
  unfold State.assignedItem
  split
  next p c hs hp hc => exact h.elim (fun hnot => absurd hs hnot) fun hnone => hnone c p hc hp
  next => rfl

/-- The byte of the request items. -/
theorem State.statusRequest_shows (s : State) (draw : Nat) :
    ((s.statusRequest draw).extractLsb' 0 2).toNat = s.pendingRequestItem ∧
      ((s.statusRequest draw).extractLsb' 2 2).toNat = s.ownRequestItem.1 ∧
      ∀ place, s.ownRequestItem.2 = some place → place < 4 → ((s.statusRequest draw).extractLsb' 4 2).toNat = place := by
  have hown := s.ownRequestItem_lt
  have hpending := s.pendingRequestItem_lt
  rw [State.statusRequest]
  refine ⟨?_, ?_, fun place hplace hlt => ?_⟩
  · rw [toNat_extract_partlyNamed draw 23 _ _ _ _ _ (by split <;> decide)]
    omega
  · rw [toNat_extract_partlyNamed draw 23 _ _ _ _ _ (by split <;> decide)]
    omega
  · rw [hplace, Option.isSome_some, if_pos rfl, toNat_extract_partlyNamed draw 23 _ _ _ _ _ (by decide), Option.getD_some]
    omega

/-- Byte 31: the own halt items, the outcome of the last halt and the run state. -/
def State.statusHaltByte (s : State) : Byte :=
  twoNibbles
    ((if s.cb.haltReq then 8 else 0) + (if s.cb.resumeReq then 4 else 0) + (if s.cb.haltAck then 2 else 0) +
      s.halt.outcome.code / 2)
    (s.halt.outcome.code % 2 * 8 + (if s.gatherHeld.isSome then 4 else 0) + RunState.code (s.iu.image.map (·.run)))

theorem State.statusHaltByte_shows (s : State) :
    s.statusHaltByte.getLsbD 7 = s.cb.haltReq ∧ s.statusHaltByte.getLsbD 6 = s.cb.resumeReq ∧
      s.statusHaltByte.getLsbD 5 = s.cb.haltAck ∧ (s.statusHaltByte.extractLsb' 3 2).toNat = s.halt.outcome.code ∧
      s.statusHaltByte.getLsbD 2 = s.gatherHeld.isSome ∧
      (s.statusHaltByte.extractLsb' 0 2).toNat = RunState.code (s.iu.image.map (·.run)) := by
  have hout := s.halt.outcome.code_lt
  have hrun := RunState.code_lt (s.iu.image.map (·.run))
  simp only [State.statusHaltByte, getLsbD_twoNibbles, toNat_extract_twoNibbles, Bool.beq_eq_decide_eq]
  refine ⟨?_, ?_, ?_, ?_, ?_, ?_⟩
  · cases s.cb.haltReq <;> simp <;> (repeat' split) <;> omega
  · cases s.cb.resumeReq <;> simp <;> (repeat' split) <;> omega
  · cases s.cb.haltAck <;> simp <;> (repeat' split) <;> omega
  · (repeat' split) <;> omega
  · cases s.gatherHeld.isSome <;> simp <;> (repeat' split) <;> omega
  · (repeat' split) <;> omega

theorem orNone_bits (w : Byte) : orNone (some w.toNat) = w := by
  simp [orNone]

/-- Settles O7. -/
theorem statusShowsStateAndChangesNothing : Obligations.StatusShowsStateAndChangesNothing := by
  intro s hfree
  obtain ⟨b25, b26, b27, hcapture, hnoCapture, hsomeCapture⟩ := s.statusCapture_shows s.free
  obtain ⟨b32, b33, b34, b35, b36, hgather, hsomeGather⟩ := s.statusGather_shows s.free
  obtain ⟨hpending, hown, hplace⟩ := s.statusRequest_shows s.free
  have hkind := s.imageKind_lt
  have hcertainty := Certainty.code_lt s.iu.certainty
  have hct := s.ct.state.code_lt
  have hcause := s.rc.cause.code_lt
  have hfirst := HalfId.code_lt s.du.first
  have h0 := s.du.h0.code_lt
  have h1 := s.du.h1.code_lt
  refine ⟨s.statusStation s.free ++ s.statusTrunk s.free ++ s.statusSweep s.free ++
      ([s.statusRequest s.free, orNone (s.iu.image.map (·.queue.length))] ++ [b25, b26, b27] ++
        [s.cb.serial, (s.cp.lastRefusal.map (·.1.code)).getD 0, orNone (s.cp.lastRefusal.map (·.2.toNat))]) ++
      ([s.statusHaltByte] ++ [b32, b33, b34, b35, b36] ++ bytesOf16 s.halt.unacked) ++
      s.statusDelivery s.free ++ s.statusPort s.free,
    partlyNamed s.free 9 0x7F#8 (twoNibbles s.ct.state.code s.kindAndCertainty), _, s.statusRequest s.free, b25,
    s.statusHaltByte, _, partlyNamed s.free 42 0x3F#8 (twoNibbles (HalfId.code s.du.first) (s.du.h1.code * 4 + s.du.h0.code)),
    _, partlyNamed s.free 51 0x83#8 (twoNibbles (if s.alert then 8 else 0) s.rc.cause.code), rfl, ?_, rfl, rfl, ?_, rfl, rfl,
    rfl, rfl, rfl, rfl, ⟨rfl, ?_, ?_, ?_⟩, fun m hm => ?_, fun hm => ?_, rfl, rfl, fun c hc => ?_, fun hc => ?_,
    fun m hm => ?_, fun hm => ?_, fun c p n hs hc hp hn => ?_, fun h => ?_, ⟨rfl, partlyNamed_flag _ _ _⟩, rfl,
    ⟨rfl, hpending, hown, hplace⟩, fun m hm => ?_, fun hm => ?_, ⟨rfl, hnoCapture, fun k hk => ?_⟩, rfl,
    fun reason serial h => ?_, fun h => ?_, ⟨rfl, s.statusHaltByte_shows⟩, hsomeGather, rfl, fun hs => ?_, fun hs => ?_,
    ⟨rfl, partlyNamed_flag _ _ _⟩, ⟨rfl, ?_, ?_, ?_⟩, rfl, fun h hh => ?_, fun hh => ?_, rfl, ⟨rfl, partlyNamed_flag _ _ _⟩, rfl,
    ⟨rfl, ?_, ?_⟩, rfl⟩
  · rw [exec_status_of_portFree hfree, State.statusWord, State.statusCaptures, State.statusHalt, hcapture, hgather]
    rfl
  · exact congrArg some ((partlyNamed_and _ _ _ _).trans (flagsByte_low_nibble _ _ _ _))
  · rw [toNat_extract_partlyNamed _ _ _ _ _ _ _ (by decide), State.kindAndCertainty]
    omega
  · rw [toNat_extract_partlyNamed _ _ _ _ _ _ _ (by decide), State.kindAndCertainty]
    omega
  · rw [toNat_extract_partlyNamed _ _ _ _ _ _ _ (by decide), State.kindAndCertainty]
    omega
  · simp only [State.statusTrunk, hm]; rfl
  · simp only [State.statusTrunk, hm]; rfl
  · simp only [State.statusSweep, hc]; rfl
  · simp only [State.statusSweep, hc]; rfl
  · simp only [State.statusSweep, hm]; rfl
  · simp only [State.statusSweep, hm]; rfl
  · rw [State.statusSweep, State.assignedItem_of_member hs hc hp, hn]; rfl
  · rw [State.statusSweep, State.assignedItem_eq_none h]; rfl
  · rw [hm]; rfl
  · rw [hm]; rfl
  · obtain ⟨hbit, hid, hserial, hcount⟩ := hsomeCapture k hk
    exact ⟨hbit, hid, congrArg some hserial, congrArg some hcount⟩
  · rw [h]
    exact ⟨rfl, congrArg some (orNone_bits serial)⟩
  · rw [h]
    exact ⟨rfl, rfl⟩
  · rw [State.statusDelivery, State.occupancyItem, State.inFlightItem, if_pos hs, if_pos hs]; rfl
  · rw [State.statusDelivery, State.occupancyItem, State.inFlightItem, if_neg hs, if_neg hs]; rfl
  · rw [toNat_extract_partlyNamed _ _ _ _ _ _ _ (by decide)]
    omega
  · rw [toNat_extract_partlyNamed _ _ _ _ _ _ _ (by decide)]
    omega
  · rw [toNat_extract_partlyNamed _ _ _ _ _ _ _ (by decide)]
    omega
  · rw [State.statusDelivery, DeliveryUnit.ageItem, hh]; rfl
  · rw [State.statusDelivery, DeliveryUnit.ageItem, hh]; rfl
  · rw [toNat_extract_partlyNamed _ _ _ _ _ _ _ (by decide)]
    split <;> omega
  · rw [getLsbD_partlyNamed _ _ _ _ rfl, getLsbD_twoNibbles]
    cases s.alert <;> simp <;> omega

end Sys2Proof.Machine
end

section
/-! The collector-port commands and their bytes (12.4, R168, R191). -/

open Sys2Proof

namespace Sys2Proof.Machine

/-- A code that 12.4 does not list is read as UNKNOWN, whatever follows it. -/
theorem decodePort_unknown {code : Byte} (h : unknownCodeOk code = true) (now : Instant) (rest : List Byte) :
    decodePort now (code :: rest) = some (.unknown code) := by
  have hcode : code.toNat = 0 ∨ 12 < code.toNat := by
    simpa [unknownCodeOk, BitVec.toNat_eq] using h
  unfold decodePort
  dsimp only
  split
  case h_16 => rfl
  all_goals (have hlisted := ‹code.toNat = _›; omega)

theorem extract_bytes_append (w : Word16) : w.extractLsb' 8 8 ++ w.extractLsb' 0 8 = w := by
  ext k hk
  simp only [BitVec.getElem_append, BitVec.getElem_extractLsb']
  split
  · simp [BitVec.getLsbD_eq_getElem hk]
  · rw [show 8 + (k - 8) = k by omega, BitVec.getLsbD_eq_getElem hk]

/-- Settles O54. -/
theorem portCommandsAreReadFromTheirBytes : Obligations.PortCommandsAreReadFromTheirBytes := by
  intro c bytes extra now hwf hbytes hjoin
  have hempty (k : Nat) (b : Byte) (hk : k < [b].length) : decodePort now ([b].take k) = none := by
    obtain rfl : k = 0 := by simpa using hk
    rfl
  refine ⟨?_, ?_, rfl⟩
  all_goals cases c
  all_goals cases hbytes
  case refine_1.unknown code => exact decodePort_unknown hwf now extra
  case refine_1.join n => exact absurd rfl (hjoin n)
  case refine_1.release sequence => exact congrArg (some <| Instr.release ·) (extract_bytes_append sequence)
  case refine_2.read start =>
    intro k hk
    match k, hk with
    | 0, _ => rfl
    | 1, _ => rfl
  case refine_2.capture total =>
    intro k hk
    match k, hk with
    | 0, _ => rfl
    | 1, _ => rfl
  case refine_2.release sequence =>
    intro k hk
    match k, hk with
    | 0, _ => rfl
    | 1, _ => rfl
    | 2, _ => rfl
  case refine_1.status | refine_1.events | refine_1.roster | refine_1.read | refine_1.close | refine_1.capture | refine_1.halt | refine_1.resumeCommand | refine_1.leave | refine_1.reset => rfl
  case refine_2.status | refine_2.events | refine_2.roster | refine_2.close | refine_2.halt | refine_2.resumeCommand | refine_2.join | refine_2.leave | refine_2.reset | refine_2.unknown =>
    exact fun k hk => hempty k _ hk

end Sys2Proof.Machine
end

section
/-! What becomes of the FILLING half at an accepted record and at a cycle end (R159, R160, R162). -/

open Sys2Proof

namespace Sys2Proof.Machine

@[simp] theorem DeliveryUnit.get_set_self (d : DeliveryUnit) (h : HalfId) (x : Half) : (d.set h x).get h = x := by
  cases h <;> rfl

@[simp] theorem DeliveryUnit.set_unchanged (d : DeliveryUnit) (h : HalfId) (x : Half) :
    (d.set h x).counter = d.counter ∧ (d.set h x).first = d.first ∧ (d.set h x).droppedPending = d.droppedPending ∧
      (d.set h x).dropped = d.dropped := by
  cases h <;> exact ⟨rfl, rfl, rfl, rfl⟩

section Filling

variable {s : State} {h : HalfId} {q : List Delivered} {a : Nat} (hw : s.du.wf = true) (hget : s.du.get h = .filling q a)
include hw hget

theorem State.deliver_filling (origin : StationId) (r : Record) (hroom : q.length < 63) :
    s.deliver origin r =
      s.setDu { s.du.set h (.filling (q ++ [{ record := r, origin, dropped := s.du.droppedPending }]) a) with
        droppedPending := false } := by
  have hnotFull : ¬ 64 ≤ (q ++ [({ record := r, origin, dropped := s.du.droppedPending } : Delivered)]).length := by simp; omega
  simp only [State.deliver, DeliveryUnit.filling_of_get hw hget, State.placeIn, hget, Half.records, Half.age, if_neg hnotFull]

/-- The 64th record closes the half. -/
theorem State.deliver_full (origin : StationId) (r : Record) (hfull : q.length = 63) :
    s.deliver origin r =
      (s.setDu { s.du.set h (.filling (q ++ [{ record := r, origin, dropped := s.du.droppedPending }]) a) with
        droppedPending := false }).closeHalf h .full := by
  have hlen : 64 ≤ (q ++ [({ record := r, origin, dropped := s.du.droppedPending } : Delivered)]).length := by simp; omega
  simp only [State.deliver, DeliveryUnit.filling_of_get hw hget, State.placeIn, hget, Half.records, Half.age, if_pos hlen]

theorem State.ageHalf_empty (c : StationConfig) (hempty : q = []) : s.ageHalf c = s := by
  simp [State.ageHalf, DeliveryUnit.filling_of_get hw hget, hget, Half.records, hempty]

theorem State.ageHalf_ages (c : StationConfig) (hne : q ≠ []) (hage : a + 1 < 256)
    (hlimit : c.closeAgeLimit = 0 ∨ a + 1 ≠ c.closeAgeLimit) : s.ageHalf c = s.setDu (s.du.set h (.filling q (a + 1))) := by
  have hstays : ¬ (c.closeAgeLimit ≠ 0 ∧ a + 1 = c.closeAgeLimit) := by tauto
  simp [State.ageHalf, DeliveryUnit.filling_of_get hw hget, hget, Half.records, Half.age, hne, hstays, Nat.le_of_lt_succ hage]

theorem State.ageHalf_closes (c : StationConfig) (hne : q ≠ []) (hlimit : c.closeAgeLimit ≠ 0) (hage : a + 1 = c.closeAgeLimit) :
    s.ageHalf c = (s.setDu (s.du.set h (.filling q (a + 1)))).closeHalf h .age := by
  simp [State.ageHalf, DeliveryUnit.filling_of_get hw hget, hget, Half.records, Half.age, hne, hlimit, hage]

end Filling

theorem State.deliver_noneFilling {s : State} (hnone : ∀ h q a, s.du.get h ≠ .filling q a) (origin : StationId) (r : Record) :
    s.deliver origin r = s.dropRecord := by
  simp only [State.deliver, DeliveryUnit.filling_eq_none hnone]

theorem State.ageHalf_noneFilling {s : State} (hnone : ∀ h q a, s.du.get h ≠ .filling q a) (c : StationConfig) : s.ageHalf c = s := by
  simp only [State.ageHalf, DeliveryUnit.filling_eq_none hnone]

/-- Settles O19. -/
theorem fillingHalfTakesRecordsAndAges : Obligations.FillingHalfTakesRecordsAndAges := by
  refine ⟨fun s origin r hw => ⟨fun h q a hget hroom => State.deliver_filling hw hget origin r hroom, fun h q a hget hfull => ?_,
    fun hnone => State.deliver_noneFilling hnone origin r⟩,
    fun s c hw => ⟨fun h a hget => State.ageHalf_empty hw hget c rfl, fun hnone => State.ageHalf_noneFilling hnone c,
      fun h q a hget hne hage hlimit => State.ageHalf_ages hw hget c hne hage hlimit, fun h q a hget hne hlimit hage => ?_⟩⟩
  · rw [State.deliver_full hw hget origin r hfull]
    refine ⟨?_, ?_, ?_, ?_, State.closeHalf_flag_closed ..⟩
    · rw [State.closeHalf_du, DeliveryUnit.closeHalf_get_self]
      cases h <;> rfl
    · simp
    · simp
    · simp
  · rw [State.ageHalf_closes hw hget c hne hlimit hage]
    refine ⟨?_, ?_, State.closeHalf_flag_closed ..⟩
    · simp [DeliveryUnit.closeHalf_get_self, Half.records]
    · simp

end Sys2Proof.Machine
end

section
/-! The range monitor, the completion of a conversion and the phases of a plan (R34, R88, R99 to R107, R120). -/

open Sys2Proof

namespace Sys2Proof.Machine

/-! ### The channel state map (R105) -/

theorem channelOut_setChannel_self (map : Byte) (k : Channel) (out : Bool) : channelOut (setChannel map k out) k = out := by
  have := k.isLt
  cases out <;> simp [channelOut, setChannel, this]

theorem channelOut_setChannel_other (map : Byte) {k other : Channel} (h : other ≠ k) (out : Bool) :
    channelOut (setChannel map k out) other = channelOut map other := by
  have hlt := other.isLt
  have hne : other.val ≠ k.val := fun heq => h (Fin.ext heq)
  rcases Nat.lt_or_gt_of_ne hne with hbelow | habove
  · cases out <;> simp [channelOut, setChannel, hlt, Fin.lt_def.2 hbelow]
  · have hapart : other.val - k.val ≠ 0 := by omega
    cases out <;> simp [channelOut, setChannel, hlt, hapart]

/-! ### The judgment of a result (R104, R105, R107) -/

section JudgeRange

variable (s : State) (c : StationConfig) (k : Channel)

@[simp] theorem State.judgeRange_rm (out : Bool) : (s.judgeRange c k out).rm = setChannel s.rm k out := by
  unfold State.judgeRange
  dsimp only
  (repeat' split) <;> simp

theorem State.judgeRange_out_flag : (s.judgeRange c k true).flag .range = true := by
  have hraised := State.flag_raise_self .range (s.setRm (setChannel s.rm k true))
  simp only [State.judgeRange, if_true]
  split
  · simpa [State.flag] using hraised
  · exact hraised

/-- R107: a request is posted at a move from IN to OUT alone. -/
theorem State.judgeRange_out_posts (hmoves : channelOut s.rm k = false) (hauto : c.autoRequest = true) :
    s.judgeRange c k true = ((s.setRm (setChannel s.rm k true)).raise .range).postRequest .range c.rangeTotal := by
  simp [State.judgeRange, hmoves, hauto]

theorem State.judgeRange_out_posts_none (h : ¬ (channelOut s.rm k = false ∧ c.autoRequest = true)) :
    s.judgeRange c k true = (s.setRm (setChannel s.rm k true)).raise .range := by
  simp only [State.judgeRange, if_true, if_neg h]

end JudgeRange

/-- R110: a post that is not taken, or finds one pending, changes nothing. -/
theorem State.postRequest_of_refused {s : State} (h : s.sc.state ≠ .member ∨ s.sc.departing = true ∨ s.cb.request.isSome)
    (cause : Cause) (n : Nat) : s.postRequest cause n = s := by
  unfold State.postRequest
  split
  next htakes =>
    split
    · rfl
    next hnone =>
      obtain ⟨hs, hd⟩ := htakes
      simp [hs, hd, hnone] at h
  next => rfl

/-- What becomes of the pending set at a judged result depends on the station controller, the pending set and the map. -/
theorem State.judgeRange_cb_of_not_posted {s : State} {c : StationConfig} {k : Channel}
    (h : channelOut s.rm k = true ∨ c.autoRequest = false ∨ s.sc.state ≠ .member ∨ s.sc.departing = true ∨ s.cb.request.isSome) :
    (s.judgeRange c k true).cb = s.cb := by
  by_cases hpost : channelOut s.rm k = false ∧ c.autoRequest = true
  · obtain ⟨hmoves, hauto⟩ := hpost
    rw [State.judgeRange_out_posts s c k hmoves hauto, State.postRequest_of_refused]
    · rfl
    · simpa [hmoves, hauto] using h
  · rw [State.judgeRange_out_posts_none s c k hpost]
    rfl

/-- Settles O22. -/
theorem rangeMonitorJudgesResults : Obligations.RangeMonitorJudgesResults := by
  intro s c v raw r out t
  have hrm : t.rm = setChannel s.rm v.channel out := State.judgeRange_rm ..
  refine ⟨fun hmonitored => ?_, fun hnot => ?_, ?_, fun other hother => ?_, fun hout => ?_, fun hin => ?_,
    fun hout hmoves hauto hs hd hnone => ?_, fun hout h => ?_⟩
  · simp [r, recordOf, rangeFlags, hmonitored]
  · simp [r, recordOf, hnot]
  · rw [hrm, channelOut_setChannel_self]
  · rw [hrm, channelOut_setChannel_other _ hother]
  · simp only [t, hout]
    exact State.judgeRange_out_flag s c v.channel
  · simp only [t, hin]
    exact ⟨rfl, rfl⟩
  · simp only [t, hout]
    rw [State.judgeRange_out_posts s c v.channel hmoves hauto, State.postRequest_pending (by exact hs) (by exact hd) (by exact hnone)]
    rfl
  · simp only [t, hout]
    exact State.judgeRange_cb_of_not_posted h

/-! ### The completion of a conversion (R99, R100, R101) -/

theorem exec_conversionComplete {s : State} {c : StationConfig} {v : Conversion} {rest : List Conversion} {now : Instant}
    (hc : s.cfg = some c) (hlist : s.sq.inFlight = v :: rest) (htimer : s.sq.completion = some now) (samples : Samples) :
    exec (.conversionComplete samples) s = .next
      (if v.discard then s.setSq (s.sq.completed now samples)
        else (s.setSq (s.sq.completed now samples)).resultOf c v (v.sample.getD (samples.get v.channel))) := by
  simp only [exec, execConversionComplete, State.configured_some hc, hlist, htimer]

theorem State.postRequest_setSq (s : State) (q : Sequencer) (cause : Cause) (n : Nat) :
    (s.setSq q).postRequest cause n = (s.postRequest cause n).setSq q := by
  by_cases htakes : s.sc.state = .member ∧ s.sc.departing = false
  · obtain ⟨hs, hd⟩ := htakes
    cases hr : s.cb.request <;> simp only [State.postRequest, State.setSq_sc, State.setSq_cb, hs, hd, hr, and_self, if_true] <;> rfl
  · have hrefused : s.postRequest cause n = s := if_neg htakes
    rw [hrefused]
    exact if_neg htakes

theorem State.judgeRange_setSq (s : State) (q : Sequencer) (c : StationConfig) (k : Channel) (out : Bool) :
    (s.setSq q).judgeRange c k out = (s.judgeRange c k out).setSq q := by
  cases out with
  | false => rfl
  | true =>
    by_cases hpost : channelOut s.rm k = false ∧ c.autoRequest = true
    · obtain ⟨hmoves, hauto⟩ := hpost
      rw [State.judgeRange_out_posts s c k hmoves hauto, State.judgeRange_out_posts (s.setSq q) c k hmoves hauto,
        ← State.postRequest_setSq]
      rfl
    · rw [State.judgeRange_out_posts_none s c k hpost, State.judgeRange_out_posts_none (s.setSq q) c k hpost]
      rfl

theorem State.resultOf_rt (s : State) (c : StationConfig) (v : Conversion) (raw : Sample) :
    (s.resultOf c v raw).rt = s.rt.enter (recordOf c v raw) := by
  unfold State.resultOf
  dsimp only
  split <;> simp

theorem State.resultOf_unmonitored {v : Conversion} (h : v.monitored = false) (s : State) (c : StationConfig) (raw : Sample) :
    s.resultOf c v raw = s.setRt (s.rt.enter (recordOf c v raw)) := by
  simp [State.resultOf, h]

theorem State.resultOf_monitored {v : Conversion} (h : v.monitored = true) (s : State) (c : StationConfig) (raw : Sample) :
    s.resultOf c v raw =
      (s.judgeRange c v.channel ((recordOf c v raw).low || (recordOf c v raw).high)).setRt (s.rt.enter (recordOf c v raw)) := by
  simp [State.resultOf, h]

/-- What a completion leaves of the list, by what stands behind its head. -/
theorem Sequencer.completed_shows {q : Sequencer} {v : Conversion} {rest : List Conversion} (hlist : q.inFlight = v :: rest)
    (now : Instant) (samples : Samples) :
    (q.completed now samples).inFlight.length = rest.length ∧ (rest = [] → (q.completed now samples).completion = none) ∧
      (∀ w more, rest = w :: more → (q.completed now samples).inFlight = w.sampled samples :: more) ∧
      (rest ≠ [] → (q.completed now samples).completion = some (now + conversionTime)) := by
  cases rest with
  | nil => simp [Sequencer.completed, hlist]
  | cons w more => simp [Sequencer.completed, hlist]

theorem RecordTransport.enter_of_room {t : RecordTransport} (h : t.occupancy < 24) (r : Record) :
    t.enter r = { t with queue := t.queue ++ [{ r with gap := t.gapPending }], gapPending := false } := if_pos h

theorem RecordTransport.enter_of_full {t : RecordTransport} (h : 24 ≤ t.occupancy) (r : Record) :
    t.enter r = { t with gapPending := true } := if_neg (Nat.not_lt.2 h)

/-- Settles O23. -/
theorem conversionCompletes : Obligations.ConversionCompletes := by
  intro s c samples v rest now x hc hlist htimer hx
  obtain ⟨hlength, hend, hnext, htimed⟩ := Sequencer.completed_shows hlist now samples
  have hexec := exec_conversionComplete hc hlist htimer samples
  rw [hx, Option.getD_some] at hexec
  refine ⟨_, hexec, ?_⟩
  by_cases hd : v.discard = true
  · rw [if_pos hd]
    exact ⟨hlength, hend, hnext, htimed, fun _ => ⟨rfl, rfl, rfl, rfl⟩, by simp [hd], by simp [hd], by simp [hd], by simp [hd],
      rfl, rfl, rfl, rfl, rfl, rfl⟩
  · rw [if_neg hd]
    have hsq : ((s.setSq (s.sq.completed now samples)).resultOf c v x).sq = s.sq.completed now samples := by simp
    have hrt := State.resultOf_rt (s.setSq (s.sq.completed now samples)) c v x
    rw [hsq]
    refine ⟨hlength, hend, hnext, htimed, fun h => absurd h hd, fun _ hroom => ?_, fun _ hfull => ?_, fun _ hm => ?_, fun _ hm => ?_,
      by simp, by simp, by simp, by simp, by simp, by simp⟩
    · rw [hrt, State.setSq_rt, RecordTransport.enter_of_room hroom]
    · rw [hrt, State.setSq_rt, RecordTransport.enter_of_full hfull]
    · rw [State.resultOf_unmonitored hm]
      exact ⟨rfl, rfl, rfl⟩
    · rw [State.resultOf_monitored hm, State.judgeRange_setSq]
      exact ⟨rfl, rfl, rfl⟩

/-! ### The phases of a plan (R34, R88, R99, R120) -/

/-- R36: which phase a plan calls for. -/
theorem PhasePlan.called_of_suppressed {p : PhasePlan} (h : p.suppressed = true) : p.called = none := if_pos h

theorem PhasePlan.called_of_drain_or_halted {p : PhasePlan} (h : p.type = .drain ∨ p.type = .halted) : p.called = none := by
  rcases h with h | h <;> simp [PhasePlan.called, h]

theorem PhasePlan.called_of_regular {p : PhasePlan} (hs : p.suppressed = false) (ht : p.type = .regular) : p.called = p.position := by
  simp [PhasePlan.called, hs, ht]

theorem PhasePlan.called_of_priority {p : PhasePlan} {q : Nat} (hs : p.suppressed = false) (ht : p.type = .priority)
    (hq : p.position = some q) : p.called = some 0 := by
  simp [PhasePlan.called, hs, ht, hq]

theorem PhasePlan.assignedEntry_of_regular {p : PhasePlan} {q : Nat} (ht : p.type = .regular) (hq : p.called = some q) (planLength : Nat) :
    p.assignedEntry planLength = some ((p.cursor + q) % planLength) := by
  simp [PhasePlan.assignedEntry, ht, hq]

theorem conversionsCalled_of_drain_or_halted (c : StationConfig) {p : PhasePlan} (h : p.type = .drain ∨ p.type = .halted) :
    conversionsCalled c p = [] := by
  rcases h with h | h <;> simp [conversionsCalled, h]

theorem conversionsCalled_of_regular {c : StationConfig} {p : PhasePlan} {index : Nat} {e : PlanEntry} (ht : p.type = .regular)
    (hindex : p.assignedEntry c.plan.length = some index) (he : c.plan[index]? = some e) :
    conversionsCalled c p = [conversionOf p (.regular (Fin.ofNat 16 index)) e] := by
  simp [conversionsCalled, ht, hindex, he]

theorem conversionsCalled_of_priority {c : StationConfig} {p : PhasePlan} {k : Capture} (ht : p.type = .priority)
    (hk : p.capture = some k) : conversionsCalled c p = groupConversions p k 0 c.group := by
  simp [conversionsCalled, ht, hk]

theorem groupConversions_channels (p : PhasePlan) (k : Capture) (element : Nat) (l : List PlanEntry) :
    (groupConversions p k element l).map (·.channel) = l.map (·.channel) := by
  induction l generalizing element with
  | nil => rfl
  | cons e rest ih => simp [groupConversions, ih, conversionOf]

/-- Conversion `i` of a capture is of group element `i`. -/
theorem groupConversions_getElem? (p : PhasePlan) (k : Capture) (element i : Nat) (l : List PlanEntry) :
    (groupConversions p k element l)[i]? = l[i]?.map (conversionOf p
      (.priority k.request.requester k.request.serial (Fin.ofNat 8 k.next) (Fin.ofNat 4 (element + i)))) := by
  induction l generalizing element i with
  | nil => rfl
  | cons e rest ih =>
    cases i with
    | zero => rfl
    | succ i => simp [groupConversions, ih, Nat.add_assoc, Nat.add_comm 1 i]

section TakePhase

variable {s : State} {c : StationConfig} {p : PhasePlan} {k : Mark}

theorem exec_phase (hc : s.cfg = some c) (hs : s.sc.state = .member) (hp : s.ct.plan = some p) (hk : s.ct.mark = some k)
    (hlt : s.ct.nextPhase < p.members) (samples : Samples) : exec (.phase samples) s = .next (s.takePhase c samples p k) := by
  simp only [exec, execPhase, State.configured_some hc, hp, hk, if_pos (And.intro hs hlt)]

theorem State.takePhase_unsignalled (h : p.called ≠ some s.ct.nextPhase ∨ s.ct.phaseTaken = true) (samples : Samples) :
    s.takePhase c samples p k = s.setCt { s.ct with nextPhase := s.ct.nextPhase + 1 } := by
  have hno : (decide (p.called = some s.ct.nextPhase) && !s.ct.phaseTaken) = false := by
    rcases h with h | h <;> simp [h]
  simp [State.takePhase, hno]

theorem State.takePhase_signalled (h : p.called = some s.ct.nextPhase) (hnot : s.ct.phaseTaken = false) (samples : Samples) :
    s.takePhase c samples p k = (s.setCt { s.ct with nextPhase := s.ct.nextPhase + 1, phaseTaken := true }).setSq
      (s.sq.append (phaseInstant c k.instant p.members s.ct.nextPhase) samples (conversionsCalled c p)) := by
  simp [State.takePhase, h, hnot]

end TakePhase

/-- Settles O24. -/
theorem phaseStartsTheConversionsOfItsPlan : Obligations.PhaseStartsTheConversionsOfItsPlan := by
  refine ⟨fun s c samples p k hc hs hp hk hlt => ?_, fun c p => ⟨PhasePlan.called_of_suppressed,
    fun ht => ⟨PhasePlan.called_of_drain_or_halted ht, conversionsCalled_of_drain_or_halted c ht⟩, ?_, ?_⟩⟩
  · rw [exec_phase hc hs hp hk hlt]
    refine ⟨fun h => ?_, fun hcalled hnot hidle hsome => ?_, fun hcalled hnot hbusy => ?_⟩
    · rw [State.takePhase_unsignalled h]
    · rw [State.takePhase_signalled hcalled hnot]
      simp only [Sequencer.append, hidle, List.isEmpty_nil, if_true, List.isEmpty_iff, if_neg hsome]
      rfl
    · rw [State.takePhase_signalled hcalled hnot]
      simp only [Sequencer.append, List.isEmpty_iff, if_neg hbusy]
  · intro q hs ht hq hpos hle
    have hcalled : p.called = some q := by rw [PhasePlan.called_of_regular hs ht, hq]
    have hindex := PhasePlan.assignedEntry_of_regular ht hcalled c.plan.length
    have hlt : (p.cursor + q) % c.plan.length < c.plan.length := Nat.mod_lt _ hpos
    have he : c.plan[(p.cursor + q) % c.plan.length]? = some c.plan[(p.cursor + q) % c.plan.length] := List.getElem?_eq_getElem hlt
    refine ⟨hcalled, hindex, _, _, conversionsCalled_of_regular ht hindex he, he, rfl, rfl, rfl, rfl, rfl, _, ?_, rfl⟩
    exact Nat.mod_eq_of_lt (by omega)
  · intro q k hs ht hq hk hgroup hnext
    rw [conversionsCalled_of_priority ht hk]
    refine ⟨PhasePlan.called_of_priority hs ht hq, groupConversions_channels .., fun i v hv => ?_⟩
    rw [groupConversions_getElem?] at hv
    obtain ⟨e, he, rfl⟩ := Option.map_eq_some_iff.1 hv
    have hi : i < c.group.length := (List.getElem?_eq_some_iff.1 he).1
    have helement : (0 + i) % 4 = i := by omega
    exact ⟨rfl, _, _, Nat.mod_eq_of_lt hnext, helement, rfl⟩

end Sys2Proof.Machine
end

section
/-! What items do to an image and what a MEMBER reports of them (R124, R126, R133, R137, R140, R142). -/

open Sys2Proof

namespace Sys2Proof.Machine

/-! ### Arrivals -/

section Arrivals

variable {m : Image} {k : Marks} {sender : StationId}

theorem Image.arrive_haltReq_starts (hrun : m.run = .running) (hgather : m.gather = none) :
    m.arrive k sender .haltReq =
      ({ m with gather := some { required := m.idSet, acked := 0, elapsed := 0 }, queue := [] },
        { k with cancelCapture := k.cancelCapture || m.capture.isSome }, .gatherStarted m.queue) := by
  simp [Image.arrive, Image.arriveHalt, hrun, hgather]

theorem Image.arrive_haltReq_ignored (h : m.run = .halted ∨ m.gather.isSome) : m.arrive k sender .haltReq = (m, k, .nothing) := by
  refine if_neg fun hstarts => ?_
  obtain ⟨hrun, hgather⟩ := hstarts
  rcases h with h | h
  · rw [h] at hrun; cases hrun
  · rw [Option.isNone_iff_eq_none] at hgather
    rw [hgather] at h; cases h

theorem Image.arrive_haltAck_required {g : Gather} (hg : m.gather = some g) (hi : IdSet.has g.required sender = true) :
    m.arrive k sender .haltAck = ({ m with gather := some { g with acked := g.acked ||| 1#16 <<< sender.val } }, k, .nothing) := by
  simp only [Image.arrive, Image.arriveAck, hg, hi, if_true]
  rfl

theorem Image.arrive_haltAck_ignored (h : m.gather = none ∨ ∃ g, m.gather = some g ∧ IdSet.has g.required sender = false) :
    m.arrive k sender .haltAck = (m, k, .nothing) := by
  rcases h with hg | ⟨g, hg, hi⟩
  · simp only [Image.arrive, Image.arriveAck, hg]
  · simp only [Image.arrive, Image.arriveAck, hg, hi, Bool.false_eq_true, if_false]

theorem Image.arrive_resumeReq_halted (hrun : m.run = .halted) :
    m.arrive k sender .resumeReq = (m, { k with resume := true }, .nothing) := by
  simp [Image.arrive, hrun]

theorem Image.arrive_resumeReq_running (hrun : m.run = .running) : m.arrive k sender .resumeReq = (m, k, .nothing) := by
  simp [Image.arrive, hrun]

theorem Image.arrive_leave : m.arrive k sender .leave = (m, { k with leavers := k.leavers ||| 1#16 <<< sender.val }, .nothing) := rfl

/-- R116: a refused request leaves the image. -/
theorem Image.arrivePriority_of_refused {cause : Cause} {total : Nat} {serial serial' : Byte} {reason : RefusalReason}
    (h : (m.arrivePriority sender cause total serial).2 = .refused reason serial') :
    (m.arrivePriority sender cause total serial).1 = m := by
  unfold Image.arrivePriority at h ⊢
  split
  · rfl
  split
  · rfl
  split
  · rfl
  split
  · rfl
  · simp_all

end Arrivals

/-! ### Reports -/

section Reports

variable {s : State} {m : Image}

theorem State.setIu_self (hm : s.iu.image = some m) : s.setIu { s.iu with image := some m, marks := s.iu.marks } = s := by
  rw [← hm]
  rfl

theorem State.applyItem_of_member (hs : s.sc.state = .member) (hm : s.iu.image = some m) (own sender : StationId) (item : Item) :
    s.applyItem own sender item =
      (s.setIu { s.iu with image := some (m.arrive s.iu.marks sender item).1, marks := (m.arrive s.iu.marks sender item).2.1 }).reportItem
        own sender (m.arrive s.iu.marks sender item).2.2 := by
  simp only [State.applyItem, hm]
  exact if_pos hs

/-- An item that changes nothing of the image and has nothing to report leaves the station as it was. -/
theorem State.applyItem_of_nothing (hs : s.sc.state = .member) (hm : s.iu.image = some m) {own sender : StationId} {item : Item}
    (h : m.arrive s.iu.marks sender item = (m, s.iu.marks, .nothing)) : s.applyItem own sender item = s := by
  rw [State.applyItem_of_member hs hm, h]
  exact State.setIu_self hm

end Reports

/-- Settles O49. -/
theorem haltItemsArriveAndAreReported : Obligations.HaltItemsArriveAndAreReported := by
  refine ⟨fun m k sender => ⟨Image.arrive_haltReq_starts, Image.arrive_haltReq_ignored, fun g => Image.arrive_haltAck_required,
    Image.arrive_haltAck_ignored, Image.arrive_resumeReq_halted, Image.arrive_resumeReq_running, Image.arrive_leave⟩,
    fun s m own sender cause total serial hs hm => ⟨fun reason hrefused => ⟨?_, fun hother => ?_⟩, fun hnothing => ?_,
      fun hrun hgather => ⟨fun r hr => ?_, fun hnone => ?_⟩, fun h => ?_⟩⟩
  · rintro rfl
    rw [State.applyItem_of_member hs hm, hrefused, State.reportItem, if_pos rfl]
    rfl
  · have himage : (m.arrive s.iu.marks sender (.priorityReq cause total serial)).1 = m := Image.arrivePriority_of_refused hrefused
    rw [State.applyItem_of_member hs hm, hrefused, himage, State.reportItem, if_neg hother]
    exact State.setIu_self hm
  · rw [State.applyItem_of_member hs hm, hnothing]
    rfl
  · rw [State.applyItem_of_member hs hm, Image.arrive_haltReq_starts hrun hgather, State.reportItem]
    simp only [hr]
    rfl
  · have hfind : m.queue.find? (·.requester = own) = none := by simpa using hnone
    rw [State.applyItem_of_member hs hm, Image.arrive_haltReq_starts hrun hgather, State.reportItem]
    simp only [hfind]
    rfl
  · exact State.applyItem_of_nothing hs hm (Image.arrive_haltReq_ignored h)

/-! ### The cycle end of an image (R118, R119, R138, R139, R143) -/

theorem Image.removedIds_has (m : Image) (k : Marks) (heard : IdSet) (i : StationId) :
    IdSet.has (m.removedIds k heard) i = true ↔ i ∈ m.ids ∧ i ∉ (rosterKept m.roster k heard).map (·.id) := by
  simp only [Image.removedIds, Image.idSet, IdSet.has_minus, IdSet.has_ofList, Bool.and_eq_true, Bool.not_eq_true', decide_eq_true_eq,
    decide_eq_false_iff_not]

section HaltPart

variable (run : RunState) (resume : Bool) (removed : IdSet) (g : Gather)

theorem haltPart_complete (h : ∀ i, IdSet.has (g.required &&& ~~~removed) i = true → IdSet.has (g.acked &&& ~~~removed) i = true) :
    haltPart run (some g) resume removed = (.halted, none, .complete) :=
  if_pos ((IdSet.within_iff _ _).2 h)

variable {g} (hmissing : ¬ ∀ i, IdSet.has (g.required &&& ~~~removed) i = true → IdSet.has (g.acked &&& ~~~removed) i = true)
include hmissing

theorem haltPart_incomplete (hage : 7 ≤ g.elapsed) :
    haltPart run (some g) resume removed = (.halted, none, .incomplete ((g.required &&& ~~~removed) &&& ~~~(g.acked &&& ~~~removed))) :=
  (if_neg (mt (IdSet.within_iff _ _).1 hmissing)).trans (if_pos hage)

theorem haltPart_waits (hage : g.elapsed < 7) :
    haltPart run (some g) resume removed =
      (run, some { required := g.required &&& ~~~removed, acked := g.acked &&& ~~~removed, elapsed := g.elapsed + 1 }, .none) :=
  (if_neg (mt (IdSet.within_iff _ _).1 hmissing)).trans (if_neg (Nat.not_le.2 hage))

end HaltPart

theorem haltPart_resumed (removed : IdSet) : haltPart .halted none true removed = (.running, none, .resumed) := rfl

theorem haltPart_unchanged {run : RunState} {resume : Bool} (h : resume = false ∨ run = .running) (removed : IdSet) :
    haltPart run none resume removed = (run, none, .none) := by
  rcases h with rfl | rfl <;> simp [haltPart]

section CycleEnd

variable (m : Image) (k : Marks) (heard : IdSet) (plan : Option PhasePlan) (own : Digest) (planLength : Nat)

/-- Run state and gather after the cycle end are those of the halt part; the promotion leaves them. -/
theorem Image.cycleEnd_halt {run : RunState} {gather : Option Gather} {change : HaltChange}
    (h : haltPart m.run m.gather k.resume (m.removedIds k heard) = (run, gather, change)) :
    (m.cycleEnd k heard plan own planLength).run = run ∧ (m.cycleEnd k heard plan own planLength).gather = gather ∧
      m.haltChange k heard = change := by
  simp [Image.cycleEnd, Image.haltChange, h]

theorem Image.promote_of_capture {m : Image} (h : m.capture.isSome) : m.promote = m := by
  unfold Image.promote
  split
  · refine if_neg fun hpromotes => ?_
    rw [Option.isNone_iff_eq_none.1 hpromotes.1] at h
    cases h
  · rfl

theorem Image.promote_of_queue {m : Image} {r : Request} {rest : List Request} (hq : m.queue = r :: rest) (hcap : m.capture = none)
    (hrun : m.run = .running) (hgather : m.gather = none) :
    m.promote = { m with queue := rest, capture := some { request := r, next := 0 } } := by
  simp [Image.promote, hq, hcap, hrun, hgather]

theorem Image.promote_of_blocked {m : Image} (h : m.queue = [] ∨ m.run = .halted ∨ m.gather.isSome) : m.promote = m := by
  unfold Image.promote
  split
  next r rest hq =>
    refine if_neg fun hpromotes => ?_
    obtain ⟨_, hrun, hgather⟩ := hpromotes
    simp [hq, hrun, Option.isNone_iff_eq_none.1 hgather] at h
  next => rfl

theorem capturePart_goes_on {a : Capture} (h : a.next + 1 < a.request.total) :
    capturePart (some a) false = some { a with next := a.next + 1 } := by
  simp [capturePart, h]

theorem capturePart_ends {capture : Option Capture} {cancel : Bool}
    (h : capture = none ∨ cancel = true ∨ ∃ a, capture = some a ∧ a.request.total ≤ a.next + 1) : capturePart capture cancel = none := by
  unfold capturePart
  split
  next a =>
    split
    · rfl
    next hnot =>
      refine if_neg fun hlt => ?_
      rcases h with h | h | ⟨b, hb, hle⟩
      · cases h
      · exact hnot h
      · cases hb; omega
  next => rfl

/-- The image of the cycle end before its promotion (R119). -/
def Image.beforePromotion : Image :=
  let halted := haltPart m.run m.gather k.resume (m.removedIds k heard)
  { m with
    epoch := m.epochAfter k heard
    cycle := m.cycle + 1
    roster := m.rosterAfter k heard
    run := halted.1
    gather := halted.2.1
    cursor := m.cursorAfter plan own planLength
    capture := capturePart m.capture k.cancelCapture }

theorem Image.cycleEnd_eq_promote :
    m.cycleEnd k heard plan own planLength = (m.beforePromotion k heard plan own planLength).promote := rfl

theorem Image.cycleEnd_run : (m.cycleEnd k heard plan own planLength).run = (m.beforePromotion k heard plan own planLength).run := by
  simp [Image.cycleEnd_eq_promote]

theorem Image.cycleEnd_gather :
    (m.cycleEnd k heard plan own planLength).gather = (m.beforePromotion k heard plan own planLength).gather := by
  simp [Image.cycleEnd_eq_promote]

end CycleEnd

/-- Settles O50. -/
theorem cycleEndMovesHaltAndCapture : Obligations.CycleEndMovesHaltAndCapture := by
  intro m k heard plan own planLength m' removed
  refine ⟨m.removedIds_has k heard, fun g hg => ⟨fun hall => ?_, fun hmissing => ⟨fun hage => ?_, fun hage => ?_⟩⟩,
    fun hg => ⟨fun hresume hrun => ?_, fun h => ?_⟩, fun a ha hcancel hnext => ?_, fun hends => ⟨fun r rest hq hrun hgather => ?_, fun h => ?_⟩⟩
  · exact m.cycleEnd_halt k heard plan own planLength (by rw [hg, haltPart_complete _ _ _ _ hall])
  · exact m.cycleEnd_halt k heard plan own planLength (by rw [hg, haltPart_incomplete _ _ _ hmissing hage])
  · exact m.cycleEnd_halt k heard plan own planLength (by rw [hg, haltPart_waits _ _ _ hmissing hage])
  · exact m.cycleEnd_halt k heard plan own planLength (by rw [hg, hresume, hrun, haltPart_resumed])
  · exact m.cycleEnd_halt k heard plan own planLength (by rw [hg, haltPart_unchanged h])
  · have hcap : (m.beforePromotion k heard plan own planLength).capture = some { a with next := a.next + 1 } := by
      simp only [Image.beforePromotion, ha, hcancel, capturePart_goes_on hnext]
    simp only [m', Image.cycleEnd_eq_promote]
    rw [Image.promote_of_capture (by rw [hcap]; rfl)]
    exact ⟨hcap, rfl⟩
  · have hcap : (m.beforePromotion k heard plan own planLength).capture = none := capturePart_ends hends
    simp only [m', Image.cycleEnd_run, Image.cycleEnd_gather] at hrun hgather
    simp only [m', Image.cycleEnd_eq_promote]
    rw [Image.promote_of_queue (m := m.beforePromotion k heard plan own planLength) hq hcap hrun hgather]
    exact ⟨rfl, rfl⟩
  · have hcap : (m.beforePromotion k heard plan own planLength).capture = none := capturePart_ends hends
    simp only [m', Image.cycleEnd_run, Image.cycleEnd_gather] at h
    simp only [m', Image.cycleEnd_eq_promote]
    rw [Image.promote_of_blocked h]
    exact ⟨hcap, rfl⟩

end Sys2Proof.Machine
end

section
/-! Roster, epoch and cursor at the cycle end (R3, R70, R71, R72, R91), and the comparison of two rosters (R18). -/

open Sys2Proof

namespace Sys2Proof.Machine

/-! ### Entries and admission -/

section Entries

variable {e : RosterEntry} {heard : IdSet}

theorem RosterEntry.cycleEnd_heard (h : IdSet.has heard e.id = true) : e.cycleEnd heard = some { e with missed := 0, admitted := false } :=
  if_pos h

theorem RosterEntry.cycleEnd_admitted (h : IdSet.has heard e.id = false) (ha : e.admitted = true) :
    e.cycleEnd heard = some { e with admitted := false } := by
  simp [RosterEntry.cycleEnd, h, ha]

theorem RosterEntry.cycleEnd_missed (h : IdSet.has heard e.id = false) (ha : e.admitted = false) (hlt : e.missed < 2) :
    e.cycleEnd heard = some { e with missed := e.missed + 1 } := by
  simp [RosterEntry.cycleEnd, h, ha, hlt]

theorem RosterEntry.cycleEnd_removed (h : IdSet.has heard e.id = false) (ha : e.admitted = false) (hle : 2 ≤ e.missed) :
    e.cycleEnd heard = none := by
  simp [RosterEntry.cycleEnd, h, ha, Nat.not_lt.2 hle]

end Entries

theorem Image.admission_of_no_join {m : Image} {k : Marks} (h : k.join = none) (heard : IdSet) : m.admission k heard = none := by
  simp only [Image.admission, h]

/-- R72: the three conditions of an admission. -/
theorem Image.admission_of_join {m : Image} {k : Marks} {i : StationId} {digest : Digest} (h : k.join = some (i, digest)) (heard : IdSet) :
    m.admission k heard =
      if m.lists i = false ∧ (rosterKept m.roster k heard).length < 16 ∧ digest = m.digest then
        some { id := i, missed := 0, admitted := true }
      else none := by
  simp only [Image.admission, h]
  refine if_congr ?_ rfl rfl
  simp [and_assoc]

theorem Image.rosterAfter_of_none {m : Image} {k : Marks} {heard : IdSet} (h : m.admission k heard = none) :
    m.rosterAfter k heard = rosterKept m.roster k heard := by
  simp only [Image.rosterAfter, h]

theorem Image.rosterAfter_of_some {m : Image} {k : Marks} {heard : IdSet} {e : RosterEntry} (h : m.admission k heard = some e) :
    m.rosterAfter k heard = insertEntry e (rosterKept m.roster k heard) := by
  simp only [Image.rosterAfter, h]

/-- R3: the ids are the same after a cycle end exactly when none was added and none removed. -/
theorem Image.rosterAfter_ids_eq_iff (m : Image) (k : Marks) (heard : IdSet) :
    (m.rosterAfter k heard).map (·.id) = m.ids ↔
      m.admission k heard = none ∧ ¬ (rosterKept m.roster k heard).length < m.roster.length := by
  cases hadd : m.admission k heard with
  | none =>
    rw [Image.rosterAfter_of_none hadd]
    have hsub := rosterKept_ids_sublist m.roster k heard
    refine ⟨fun heq => ⟨rfl, ?_⟩, fun hlen => hsub.eq_of_length_le ?_⟩
    · have hlen := congrArg List.length heq
      simp only [Image.ids, List.length_map] at hlen
      omega
    · simpa using Nat.not_lt.1 hlen.2
  | some e =>
    rw [Image.rosterAfter_of_some hadd]
    refine ⟨fun heq => absurd ?_ (Image.admission_some hadd).1, fun h => nomatch h.1⟩
    rw [← heq]
    exact List.mem_map_of_mem ((mem_insertEntry e e _).2 (Or.inl rfl))

theorem Image.cycleEnd_ids (m : Image) (k : Marks) (heard : IdSet) (plan : Option PhasePlan) (own : Digest) (planLength : Nat) :
    (m.cycleEnd k heard plan own planLength).ids = (m.rosterAfter k heard).map (·.id) := by
  rw [Image.ids, Image.cycleEnd_roster]

theorem Image.cycleEnd_ids_ascending {m : Image} (h : idsAscending m.ids = true) (k : Marks) (heard : IdSet) (plan : Option PhasePlan)
    (own : Digest) (planLength : Nat) : idsAscending (m.cycleEnd k heard plan own planLength).ids = true := by
  rw [idsAscending_iff] at h ⊢
  rw [Image.cycleEnd_ids]
  have hkept := h.sublist (rosterKept_ids_sublist m.roster k heard)
  cases hadd : m.admission k heard with
  | none => rwa [Image.rosterAfter_of_none hadd]
  | some e =>
    rw [Image.rosterAfter_of_some hadd]
    exact insertEntry_ascending e _ hkept fun hmem =>
      (Image.admission_some hadd).1 ((rosterKept_ids_sublist m.roster k heard).subset hmem)

theorem Image.cycleEnd_epoch (m : Image) (k : Marks) (heard : IdSet) (plan : Option PhasePlan) (own : Digest) (planLength : Nat) :
    (m.cycleEnd k heard plan own planLength).epoch =
      if (m.cycleEnd k heard plan own planLength).ids = m.ids then m.epoch else m.epoch + 1 := by
  have hepoch : (m.cycleEnd k heard plan own planLength).epoch = m.epochAfter k heard := by simp [Image.cycleEnd]
  rw [hepoch, Image.cycleEnd_ids, if_congr (m.rosterAfter_ids_eq_iff k heard) rfl rfl, Image.epochAfter]
  cases hadd : m.admission k heard <;> by_cases hlen : (rosterKept m.roster k heard).length < m.roster.length <;> simp [hlen]

/-- Settles O51. -/
theorem rosterEpochAndCursorAtTheCycleEnd : Obligations.RosterEpochAndCursorAtTheCycleEnd := by
  intro e m k heard i digest p own planLength m'
  refine ⟨RosterEntry.cycleEnd_heard, fun h => ⟨RosterEntry.cycleEnd_admitted h, fun ha =>
      ⟨RosterEntry.cycleEnd_missed h ha, RosterEntry.cycleEnd_removed h ha⟩⟩,
    fun h => Image.admission_of_no_join h heard, fun h => ?_, mem_rosterKept m.roster k heard, rosterKept_ids_sublist m.roster k heard,
    fun h => ?_, fun added h => ?_, fun h => Image.cycleEnd_ids_ascending h k heard _ own planLength,
    Image.cycleEnd_epoch m k heard _ own planLength, ?_, ?_, fun ht hd => ?_, fun ht => ?_⟩
  · rw [Image.admission_of_join h]
    split <;> simp [*]
  · simp only [m', Image.cycleEnd_roster, Image.rosterAfter_of_none h]
  · simp only [m', Image.cycleEnd_roster, Image.rosterAfter_of_some h]
    exact insertEntry_split added _
  · simp [m', Image.cycleEnd]
  · simp [m', Image.cycleEnd]
  · simp [m', Image.cycleEnd, Image.cursorAfter, ht, hd]
  · simp [m', Image.cycleEnd, Image.cursorAfter, ht]

/-! ### The larger roster (R18) -/

/-- Of two different id lists of one length, exactly one is lower where they first differ. -/
theorem lowerIds_iff_not {own foreign : List StationId} (hlen : own.length = foreign.length) (hne : own ≠ foreign) :
    lowerIds foreign own = true ↔ lowerIds own foreign = false := by
  induction own generalizing foreign with
  | nil => exact absurd (List.length_eq_zero_iff.1 hlen.symm).symm hne
  | cons x xs ih =>
    cases foreign with
    | nil => cases hlen
    | cons y ys =>
      by_cases hxy : x = y
      · subst hxy
        simpa [lowerIds] using ih (by simpa using hlen) (by simpa using hne)
      · have hyx : y ≠ x := Ne.symm hxy
        simp only [lowerIds, if_neg hxy, if_neg hyx, decide_eq_true_eq, decide_eq_false_iff_not]
        exact ⟨fun h => not_lt.2 (le_of_lt h), fun h => lt_of_le_of_ne (not_lt.1 h) hyx⟩

theorem lowerIds_append (pre : List StationId) {x y : StationId} (h : y < x) (u v : List StationId) :
    lowerIds (pre ++ y :: v) (pre ++ x :: u) = true := by
  induction pre with
  | nil => simp [lowerIds, ne_of_lt h, h]
  | cons z pre ih => simpa [lowerIds] using ih

/-- Settles O52. -/
theorem yieldComparisonIsDecided : Obligations.YieldComparisonIsDecided := by
  intro own foreign _ _ hne
  refine ⟨?_, fun hlt => ?_, fun pre x y u v hlen hown hforeign hlt => ?_⟩
  · rcases Nat.lt_trichotomy own.length foreign.length with hlt | heq | hgt
    · simp [foreignLarger, hlt, Nat.not_lt_of_lt hlt, Nat.ne_of_gt hlt]
    · simp [foreignLarger, heq, lowerIds_iff_not heq hne]
    · simp [foreignLarger, hgt, Nat.not_lt_of_lt hgt, Nat.ne_of_gt hgt]
  · simp [foreignLarger, hlt]
  · subst hown hforeign
    rw [foreignLarger, lowerIds_append pre hlt u v]
    simp [hlen]

end Sys2Proof.Machine
end

section
/-! Openings and slots (R21, R24, R25, R29, R48, R65): what the CT, the transmitter and the pending set are after each. -/

open Sys2Proof

namespace Sys2Proof.Machine

/-! ### The CT at a slot and at an opening -/

/-- R24: the CT as a slot begins, whether or not the slot brings an assembly. -/
theorem State.slotBegins_ct (s : State) (c : StationConfig) (now : Instant) : (s.slotBegins c now).ct = (s.inSlot c now).ct := by
  by_cases h : s.sc.state = .member ∧ s.ct.position = some s.ct.pointer
  · rw [State.slotBegins_own h]; simp
  · rw [State.slotBegins_other h]

/-- R21: the silence timer runs from an opening, unless a frame is in progress. -/
theorem State.openCycle_silence {s : State} {m : Image} (hm : s.iu.image = some m) (c : StationConfig) (now : Instant) (byFrame : Bool) :
    (s.openCycle c now byFrame).ct.silence = if s.ti.receiving.isSome then none else some (now + silenceOf c) := by
  rw [State.openCycle_of_image hm, State.slotBegins_ct]
  rfl

/-- R48: the own slot of a MEMBER whose transmitter is free brings the BEAT that the statements describe. -/
theorem State.slotBegins_assembles {s : State} {m : Image} (hs : s.sc.state = .member) (hm : s.iu.image = some m)
    (hp : s.ct.position = some s.ct.pointer) (ht : s.ti.tx = .idle ∨ s.ti.tx = .armed) (c : StationConfig) (now : Instant) :
    s.assembles c now (s.slotBegins c now) := by
  rw [State.slotBegins_own ⟨hs, hp⟩]
  have hassembles : (s.inSlot c now).assembles c now ((s.inSlot c now).assembleBeat c now) :=
    State.assembleBeat_assembles (s := s.inSlot c now) hs hm rfl hp ht c now
  exact (State.assembles_congr (s := s.inSlot c now) (s' := s) rfl rfl c now _).1 hassembles

/-- The member at position 0 assembles its BEAT at the opening (R48, log 32). -/
theorem State.openCycle_assembles {s : State} {m : Image} {c : StationConfig} (hs : s.sc.state = .member) (hm : s.iu.image = some m)
    (hp : m.position c.id = some 0) (ht : s.ti.tx = .idle ∨ s.ti.tx = .armed) (now : Instant) (byFrame : Bool) :
    s.assembles c now (s.openCycle c now byFrame) := by
  rw [State.openCycle_of_image hm]
  have hassembles := State.slotBegins_assembles (s := s.setCt (s.ct.opened c s.sc.departing now byFrame m)) hs hm hp ht c now
  exact (State.assembles_congr (s := s.setCt (s.ct.opened c s.sc.departing now byFrame m)) (s' := s) rfl rfl c now _).1 hassembles

/-! ### Founding -/

/-- The station as it founds, before its first cycle opens (R5, R65). -/
def State.founder (c : StationConfig) (s : State) : State :=
  (((((s.setIu { image := some (foundingImage c), copy := some (foundingImage c), certainty := some .synced, marks := .empty }).setSc
    { s.sc with state := .member, departing := false, attempts := 0, founding := none }).raise .joined).setRm 0).setHalt .empty).setTi
    s.ti.dropArmed |>.setCt .stopped

theorem State.found_eq_openCycle (s : State) (c : StationConfig) (now : Instant) :
    s.found c now = (s.founder c).openCycle c now false := rfl

theorem foundingImage_position (c : StationConfig) : (foundingImage c).position c.id = some 0 := by
  simp [foundingImage, Image.position, Image.lists, Image.ids]

theorem TrunkInterface.dropArmed_tx {t : TrunkInterface} (h : t.tx = .idle ∨ t.tx = .armed) : t.dropArmed.tx = .idle := by
  rcases h with h | h <;> simp [TrunkInterface.dropArmed, TrunkInterface.noFrame, h]

section FoundingTimer

variable {s : State} {c : StationConfig} {e : Instant} (hc : s.cfg = some c) (hs : s.sc.state = .listen) (he : s.sc.founding = some e)
include hc hs he

theorem exec_foundingTimerExpiry :
    exec .foundingTimerExpiry s = .next (if s.sc.joiningWanted ∧ s.sc.holdoff.isNone then s.found c e
      else s.setSc { s.sc with founding := some (e + foundingWait c) }) := by
  simp only [exec, execFoundingTimerExpiry, State.configured_some hc, hs, he]

end FoundingTimer

/-- Settles O26. -/
theorem foundingTimerFoundsOrRestarts : Obligations.FoundingTimerFoundsOrRestarts := by
  intro s c e hc hs he
  rw [exec_foundingTimerExpiry hc hs he]
  refine ⟨fun h => ?_, fun hwanted hholdoff => ?_⟩
  · have hno : ¬ (s.sc.joiningWanted = true ∧ s.sc.holdoff.isNone = true) := by
      rcases h with h | h
      · simp [h]
      · simp [Option.isSome_iff_ne_none.1 h]
    rw [if_neg hno]
    rfl
  · rw [if_pos ⟨hwanted, by simp [hholdoff]⟩, State.found_eq_openCycle]
    have hm : (s.founder c).iu.image = some (foundingImage c) := rfl
    have hopens := State.openCycle_opensWith hm c e false
    obtain ⟨hstate, hpointer, hheard, hseen, hmark, hnext, -, -, hplan⟩ := hopens
    refine ⟨_, rfl, by simp [State.founder, foundingImage], by simp [State.founder], ?_, by simp [State.founder], by simp [State.founder, HaltReport.empty],
      hstate, hpointer, hmark, hnext, hheard, hseen, ?_, ?_, fun m hm' => ?_, fun ht => ?_, by simp [State.founder]⟩
    · have hflag : (s.founder c).flag .joined = true := State.flag_raise_self .joined _
      simpa [State.flag] using hflag
    · rw [CycleTimer.members, hplan]; rfl
    · rw [CycleTimer.position, hplan]; exact foundingImage_position c
    · have hsame : ((s.founder c).openCycle c e false).iu.image = some (foundingImage c) := by simp [State.founder]
      rw [hsame] at hm'
      obtain rfl := Option.some.inj hm'
      exact State.openCycle_opensWith hm c e false
    · have hassembles := State.openCycle_assembles (s := s.founder c) rfl hm (foundingImage_position c)
        (Or.inl (TrunkInterface.dropArmed_tx ht)) e false
      exact (State.assembles_congr (s := s.founder c) (s' := s) rfl rfl c e _).1 hassembles

/-! ### The opening of a cycle -/

theorem exec_cycleOpening {s : State} {c : StationConfig} {at0 : Instant} (hc : s.cfg = some c) (hstate : s.ct.state = .interval)
    (hat : s.ct.nextOpening = some at0) : exec .cycleOpening s = .next (s.openCycle c at0 false) := by
  simp only [exec, execCycleOpening, State.configured_some hc, hstate, hat]

/-- Settles O27. -/
theorem cycleOpensAtItsInstant : Obligations.CycleOpensAtItsInstant := by
  intro s c m at0 hc hm hstate hat
  refine ⟨⟨fun h => by simp [Image.cycleType, h], fun hcap hrun => by simp [Image.cycleType, hcap, hrun],
    fun hcap hrun hg => by simp [Image.cycleType, hcap, hrun, hg], fun hcap hrun hg => by simp [Image.cycleType, hcap, hrun, hg]⟩,
    _, exec_cycleOpening hc hstate hat, ?_⟩
  obtain ⟨hslots, hpointer, hheard, hseen, hmark, hnext, hphase, htaken, hplan⟩ := State.openCycle_opensWith hm c at0 false
  refine ⟨hslots, hpointer, hheard, hseen, hmark, hnext, hphase, htaken, hplan, fun hr => ?_,
    fun hs hp ht => State.openCycle_assembles hs hm hp (Or.inl ht) at0 false, ?_⟩
  · rw [State.openCycle_silence hm, hr]
    rfl
  · simp

/-! ### A slot that passes -/

theorem exec_slotPasses {s : State} {c : StationConfig} {e : Instant} (hc : s.cfg = some c) (hstate : s.ct.state = .slots)
    (he : s.ct.silence = some e) : exec .slotPasses s = .next (s.movePointer c e (s.ct.pointer + 1)) := by
  simp only [exec, execSlotPasses, State.configured_some hc, hstate, he]

/-- The station with the slot pointer at a place (R24). -/
def State.pointedAt (p : Nat) (s : State) : State := s.setCt { s.ct with pointer := p }

theorem State.movePointer_slot {s : State} {p : Nat} (h : p < s.ct.members) (c : StationConfig) (now : Instant) :
    s.movePointer c now p = (s.pointedAt p).slotBegins c now := if_pos h

theorem State.movePointer_window {s : State} {p : Nat} (h : s.ct.members ≤ p) (c : StationConfig) (now : Instant) :
    s.movePointer c now p = (s.pointedAt p).windowOpens c now := if_neg (Nat.not_lt.2 h)

/-- The CT in the slot that a pointer begins. -/
def CycleTimer.inSlotAt (t : CycleTimer) (c : StationConfig) (receiving : Option Bool) (now : Instant) (p : Nat) : CycleTimer :=
  { t with state := .slots, pointer := p, silence := if receiving = none then some (now + c.silence * unitsPerMicrosecond) else none }

theorem State.pointedAt_inSlot_ct (s : State) (c : StationConfig) (now : Instant) (p : Nat) :
    ((s.pointedAt p).inSlot c now).ct = s.ct.inSlotAt c s.ti.receiving now p := by
  cases hr : s.ti.receiving <;> simp [State.inSlot, State.pointedAt, CycleTimer.inSlotAt, silenceOf, microseconds, hr]

/-- R24: the next slot begins, and it is not the own one. -/
theorem State.movePointer_slot_other {s : State} {p : Nat} (h : p < s.ct.members)
    (hother : ¬ (s.sc.state = .member ∧ s.ct.position = some p)) (c : StationConfig) (now : Instant) :
    s.movePointer c now p = s.setCt (s.ct.inSlotAt c s.ti.receiving now p) := by
  rw [State.movePointer_slot h, State.slotBegins_other hother, ← s.pointedAt_inSlot_ct c now p]
  rfl

theorem State.movePointer_slot_ct {s : State} {p : Nat} (h : p < s.ct.members) (c : StationConfig) (now : Instant) :
    (s.movePointer c now p).ct = s.ct.inSlotAt c s.ti.receiving now p := by
  rw [State.movePointer_slot h, State.slotBegins_ct, State.pointedAt_inSlot_ct]

/-- R24, R48: the next slot is the own one, and brings the assembly. -/
theorem State.movePointer_slot_own {s : State} {p : Nat} (h : p < s.ct.members) (hs : s.sc.state = .member)
    (hp : s.ct.position = some p) (c : StationConfig) (now : Instant) :
    s.movePointer c now p = ((s.pointedAt p).inSlot c now).assembleBeat c now := by
  rw [State.movePointer_slot h]
  exact State.slotBegins_own (s := s.pointedAt p) ⟨hs, hp⟩ c now

theorem State.movePointer_assembles {s : State} {m : Image} {p : Nat} (h : p < s.ct.members) (hs : s.sc.state = .member)
    (hm : s.iu.image = some m) (hp : s.ct.position = some p) (ht : s.ti.tx = .idle ∨ s.ti.tx = .armed) (c : StationConfig)
    (now : Instant) : s.assembles c now (s.movePointer c now p) := by
  rw [State.movePointer_slot h]
  have hassembles := State.slotBegins_assembles (s := s.pointedAt p) hs hm hp ht c now
  exact (State.assembles_congr (s := s.pointedAt p) (s' := s) rfl rfl c now _).1 hassembles

/-- The CT as the join window opens (R29). -/
def CycleTimer.inWindowAt (t : CycleTimer) (c : StationConfig) (now : Instant) (p : Nat) : CycleTimer :=
  { t with pointer := p, state := .window, silence := none, window := some (now + c.silence * unitsPerMicrosecond) }

theorem State.movePointer_window_not_listen {s : State} {p : Nat} (h : s.ct.members ≤ p) (hs : s.sc.state ≠ .listen) (c : StationConfig)
    (now : Instant) : s.movePointer c now p = s.setCt (s.ct.inWindowAt c now p) := by
  rw [State.movePointer_window h]
  exact if_neg hs

theorem State.movePointer_window_listen {s : State} {p : Nat} (h : s.ct.members ≤ p) (hs : s.sc.state = .listen) (c : StationConfig)
    (now : Instant) : s.movePointer c now p = (s.setCt (s.ct.inWindowAt c now p)).judgeJoin c now := by
  rw [State.movePointer_window h]
  exact if_pos hs

end Sys2Proof.Machine
end

section
/-! The silent slot and the BEAT of the own slot (R24, R29, R48). -/

open Sys2Proof

namespace Sys2Proof.Machine

theorem CycleTimer.inSlotAt_of_slots {t : CycleTimer} (h : t.state = .slots) (c : StationConfig) (receiving : Option Bool) (now : Instant)
    (p : Nat) : t.inSlotAt c receiving now p =
      { t with pointer := p, silence := if receiving = none then some (now + c.silence * unitsPerMicrosecond) else none } := by
  rw [CycleTimer.inSlotAt, ← h]

section OwnSlot

variable {s : State} {m : Image} {p : Nat} (h : p < s.ct.members) (hs : s.sc.state = .member) (hm : s.iu.image = some m)
  (hp : s.ct.position = some p) (ht : s.ti.tx = .idle ∨ s.ti.tx = .armed)
include h hs hm hp ht

/-- R48: the assembly of the own slot takes the first 12 records, and of the trunk interface it sets transmitter, frame and guard alone. -/
theorem State.movePointer_slot_own_spec (c : StationConfig) (now : Instant) :
    (s.movePointer c now p).rt = s.rt.returned.pack ∧ (s.movePointer c now p).ti.tx = .armed ∧
      (s.movePointer c now p).ti.startGuard = some (now + guardOf c) ∧
      (s.movePointer c now p).ti = { s.ti with
        tx := (s.movePointer c now p).ti.tx, startGuard := (s.movePointer c now p).ti.startGuard,
        frame := (s.movePointer c now p).ti.frame } := by
  rw [State.movePointer_slot_own h hs hp]
  obtain ⟨hrt, -, items, -, hti⟩ := State.assembleBeat_spec (s := (s.pointedAt p).inSlot c now) hm ht c now
  rw [hrt, hti]
  exact ⟨rfl, rfl, rfl, rfl⟩

omit hm ht in
theorem State.movePointer_slot_own_unchanged (c : StationConfig) (now : Instant) :
    (s.movePointer c now p).iu = s.iu ∧ (s.movePointer c now p).sc = s.sc ∧ (s.movePointer c now p).du = s.du ∧
      (s.movePointer c now p).sq = s.sq ∧ (s.movePointer c now p).rm = s.rm ∧ (s.movePointer c now p).cp = s.cp ∧
      (s.movePointer c now p).halt = s.halt := by
  rw [State.movePointer_slot_own h hs hp]
  simp [State.inSlot, State.pointedAt]

end OwnSlot

/-- Settles O28. -/
theorem silentSlotPasses : Obligations.SilentSlotPasses := by
  intro s c e hc hstate he next
  have hnext : next = s.ct.inSlotAt c s.ti.receiving e (s.ct.pointer + 1) := (CycleTimer.inSlotAt_of_slots hstate ..).symm
  rw [exec_slotPasses hc hstate he]
  refine ⟨fun hlt hother => ?_, fun hlt hs hp hm ht => ?_, fun hle hs => ?_⟩
  · rw [State.movePointer_slot_other hlt, hnext]
    rintro ⟨hs, hp⟩
    exact hother.elim (absurd hs) (absurd hp)
  · obtain ⟨m, hm⟩ := Option.isSome_iff_exists.1 hm
    obtain ⟨hrt, hti, hguard, -⟩ := State.movePointer_slot_own_spec hlt hs hm hp (.inl ht) c e
    refine ⟨_, rfl, ?_, hti, hguard, ?_, State.movePointer_slot_own_unchanged hlt hs hp c e⟩
    · rw [State.movePointer_slot_ct hlt, hnext]
    · rw [hrt]
      rfl
  · rw [State.movePointer_window_not_listen hle hs]
    rfl

/-- The first part of O29: SLOT_PASSES into the own slot. -/
theorem slotPasses_assembles {s : State} {c : StationConfig} {m : Image} {e : Instant} (hc : s.cfg = some c) (hs : s.sc.state = .member)
    (hm : s.iu.image = some m) (hstate : s.ct.state = .slots) (he : s.ct.silence = some e)
    (hp : s.ct.position = some (s.ct.pointer + 1)) (hlt : s.ct.pointer + 1 < s.ct.members) (ht : s.ti.tx = .idle) :
    ∃ t, exec .slotPasses s = .next t ∧ s.assembles c e t ∧ t.ct.pointer = s.ct.pointer + 1 ∧
      t.ti = { s.ti with tx := t.ti.tx, startGuard := t.ti.startGuard, frame := t.ti.frame } ∧
      t.iu = s.iu ∧ t.sc = s.sc ∧ t.du = s.du ∧ t.sq = s.sq ∧ t.rm = s.rm ∧ t.cp = s.cp ∧ t.halt = s.halt := by
  obtain ⟨-, -, -, hti⟩ := State.movePointer_slot_own_spec hlt hs hm hp (.inl ht) c e
  refine ⟨_, exec_slotPasses hc hstate he, State.movePointer_assembles hlt hs hm hp (.inl ht) c e, ?_, hti,
    State.movePointer_slot_own_unchanged hlt hs hp c e⟩
  rw [State.movePointer_slot_ct hlt]
  rfl

end Sys2Proof.Machine
end

section
/-! Every BEAT that a command arms at an IDLE transmitter is the assembly that the statements describe (R48, log 32): what every operation of a step leaves of the state in which it began. -/

open Sys2Proof

namespace Sys2Proof.Machine

/-- On the way from `s` to `u` nothing was armed, and a station that is on its way into a group still holds the records and the pending set of `s`. -/
structure State.MayArm (s u : State) : Prop where
  notArmed : u.ti.tx ≠ .armed
  kept : u.sc.state = .member ∨ u.sc.state = .joining → u.rt = s.rt ∧ u.cb = s.cb
  settled : u.sc.deferredLeave = false

/-- What stands ARMED at `u` is no BEAT, or one assembled from `s`. -/
structure State.ArmsAs (s : State) (c : StationConfig) (u : State) : Prop where
  assembled : u.ti.tx = .armed → u.holdsBeat = true → ∃ now, s.assembles c now u
  settled : u.sc.deferredLeave = false

section Congruence

variable {s u v : State} {c : StationConfig}

theorem State.MayArm.armsAs (h : s.MayArm u) : s.ArmsAs c u := ⟨fun ht => absurd ht h.notArmed, h.settled⟩

theorem State.MayArm.congr (h : s.MayArm u) (htx : v.ti.tx = u.ti.tx) (hstate : v.sc.state = u.sc.state)
    (hleave : v.sc.deferredLeave = u.sc.deferredLeave) (hrt : v.rt = u.rt) (hcb : v.cb = u.cb) : s.MayArm v :=
  ⟨by rw [htx]; exact h.notArmed, fun hv => by rw [hrt, hcb]; exact h.kept (by rwa [hstate] at hv), by rw [hleave]; exact h.settled⟩

/-- A station that leaves a group, or enters none, arms no BEAT of it. -/
theorem State.MayArm.out (htx : u.ti.tx ≠ .armed) (hm : u.sc.state ≠ .member) (hj : u.sc.state ≠ .joining)
    (hleave : u.sc.deferredLeave = false) : s.MayArm u :=
  ⟨htx, fun h => (h.elim hm hj).elim, hleave⟩

theorem State.assembles_congr_target (hsc : v.sc = u.sc) (hiu : v.iu = u.iu) (hct : v.ct = u.ct) (hti : v.ti = u.ti)
    (hrt : v.rt = u.rt) (hcb : v.cb = u.cb) (hsq : v.sq = u.sq) (now : Instant) : s.assembles c now v ↔ s.assembles c now u := by
  simp only [State.assembles, hsc, hiu, hct, hti, hrt, hcb, hsq]

theorem State.ArmsAs.congr (h : s.ArmsAs c u) (hsc : v.sc = u.sc) (hiu : v.iu = u.iu) (hct : v.ct = u.ct) (hti : v.ti = u.ti)
    (hrt : v.rt = u.rt) (hcb : v.cb = u.cb) (hsq : v.sq = u.sq) : s.ArmsAs c v := by
  refine ⟨fun ht hb => ?_, by rw [hsc]; exact h.settled⟩
  obtain ⟨now, hnow⟩ := h.assembled (by rwa [hti] at ht) (by rwa [State.holdsBeat, hti] at hb)
  exact ⟨now, (State.assembles_congr_target hsc hiu hct hti hrt hcb hsq now).2 hnow⟩

end Congruence

/-- A transmitter that is neither IDLE nor ARMED takes no assembly. -/
theorem State.assembleBeat_of_busy {s : State} (hidle : s.ti.tx ≠ .idle) (harmed : s.ti.tx ≠ .armed) (c : StationConfig)
    (now : Instant) : s.assembleBeat c now = s := by
  unfold State.assembleBeat
  split
  · exact if_neg fun h => h.elim hidle harmed
  · rfl

theorem State.slotBegins_ti_of_busy {s : State} (hidle : s.ti.tx ≠ .idle) (harmed : s.ti.tx ≠ .armed) (c : StationConfig)
    (now : Instant) : (s.slotBegins c now).ti = s.ti := by
  by_cases hown : s.sc.state = .member ∧ s.ct.position = some s.ct.pointer
  · rw [State.slotBegins_own hown, State.assembleBeat_of_busy (s := s.inSlot c now) hidle harmed]
    rfl
  · rw [State.slotBegins_other hown]
    rfl

/-- R49: the BEAT of an assembly is up to date. -/
theorem State.assembles.refreshArmed {s u : State} {c : StationConfig} {now : Instant} (h : s.assembles c now u) : u.refreshArmed = u := by
  obtain ⟨m, items, hm, hs, hct, hp, -, -, -, -, htx, -, hframe, -, hnone, -⟩ := h
  have hitems : (if u.iu.certainty = some .synced then items else []) = items := by
    split
    · rfl
    next hnot => exact (hnone hnot).symm
  unfold State.refreshArmed
  simp only [htx, hframe, hm, hs, hct, hp, and_self, if_true, State.beatFrame, Option.getD_some, hitems, State.summaryToSend]
  rw [← hframe, ← htx]
  rfl

theorem State.ArmsAs.refreshArmed {s u : State} {c : StationConfig} (h : s.ArmsAs c u) : u.refreshArmed = u := by
  by_cases ht : u.ti.tx = .armed
  · by_cases hb : u.holdsBeat = true
    · obtain ⟨now, hnow⟩ := h.assembled ht hb
      exact hnow.refreshArmed
    · unfold State.refreshArmed
      split
      next hframe _ => exact absurd (by simp [State.holdsBeat, hframe, OwnFrame.isBeat]) hb
      next hframe _ => exact absurd (by simp [State.holdsBeat, hframe, OwnFrame.isBeat]) hb
      next => rfl
  · exact State.refreshArmed_of_not_armed ht

section Operations

variable {s u : State} {c : StationConfig}

/-! ### Slots, openings and cycle ends -/

theorem State.MayArm.slotBegins (h : s.MayArm u) (now : Instant) : s.ArmsAs c (u.slotBegins c now) := by
  refine ⟨fun ht _ => ?_, by simpa using h.settled⟩
  have hidle : u.ti.tx = .idle := by
    by_contra hbusy
    rw [State.slotBegins_ti_of_busy hbusy h.notArmed] at ht
    exact h.notArmed ht
  by_cases hown : u.sc.state = .member ∧ u.ct.position = some u.ct.pointer
  · obtain ⟨hs, hp⟩ := hown
    cases hm : u.iu.image with
    | none =>
      rw [State.slotBegins_own ⟨hs, hp⟩] at ht
      simp only [State.assembleBeat, State.inSlot, State.setCt_iu, hm, State.setCt_ti] at ht
      exact absurd ht h.notArmed
    | some m =>
      obtain ⟨hrt, hcb⟩ := h.kept (.inl hs)
      exact ⟨now, (State.assembles_congr hrt hcb c now _).1 (State.slotBegins_assembles hs hm hp (.inl hidle) c now)⟩
  · rw [State.slotBegins_other hown] at ht
    exact absurd ht h.notArmed

theorem State.MayArm.setCt (h : s.MayArm u) (t : CycleTimer) : s.MayArm (u.setCt t) := h.congr rfl rfl rfl rfl rfl

theorem State.MayArm.setIu (h : s.MayArm u) (i : ImageUnit) : s.MayArm (u.setIu i) := h.congr rfl rfl rfl rfl rfl

theorem State.MayArm.of_enterFault (s u : State) (reason : FaultReason) : s.MayArm (u.enterFault reason) :=
  .out (by simp [State.enterFault, State.offTrunk, State.raise, TrunkInterface.noFrame]) (by simp) (by simp)
    (by simp [State.enterFault, State.raise])

theorem State.MayArm.judgeJoin (h : s.MayArm u) (now : Instant) : s.ArmsAs c (u.judgeJoin c now) := by
  unfold State.judgeJoin
  split
  · split
    next reason _ => exact (h.congr (v := u.setSc { u.sc with joinHold := reason }) rfl rfl rfl rfl rfl).armsAs
    · split
      · exact ⟨fun _ hb => (Bool.false_ne_true hb).elim, h.settled⟩
      · exact (State.MayArm.of_enterFault s u _).armsAs
  · exact h.armsAs

theorem State.MayArm.windowOpens (h : s.MayArm u) (now : Instant) : s.ArmsAs c (u.windowOpens c now) := by
  unfold State.windowOpens
  dsimp only
  split
  · exact (h.setCt _).judgeJoin now
  · exact (h.setCt _).armsAs

theorem State.MayArm.movePointer (h : s.MayArm u) (now : Instant) (p : Nat) : s.ArmsAs c (u.movePointer c now p) := by
  unfold State.movePointer
  dsimp only
  split
  · exact (h.setCt _).slotBegins now
  · exact (h.setCt _).windowOpens now

theorem State.MayArm.openCycle (h : s.MayArm u) (now : Instant) (byFrame : Bool) : s.ArmsAs c (u.openCycle c now byFrame) := by
  unfold State.openCycle
  split
  · exact (h.setCt _).slotBegins now
  · exact h.armsAs

theorem State.MayArm.timerCycleEnd (h : s.MayArm u) (now : Instant) : s.ArmsAs c (u.timerCycleEnd c now) := by
  unfold State.timerCycleEnd
  split
  · split
    · exact h.openCycle now false
    · exact (h.setCt _).armsAs
  · exact (h.setCt _).armsAs

theorem State.MayArm.of_enterIdle (s u : State) : s.MayArm u.enterIdle :=
  .out (by simp [State.enterIdle, State.offTrunk, TrunkInterface.noFrame]) (by simp [State.enterIdle]) (by simp [State.enterIdle])
    (by simp [State.enterIdle])

theorem State.MayArm.failAttempt (h : s.MayArm u) (now : Instant) : s.MayArm (u.failAttempt c now) := by
  unfold State.failAttempt
  split
  · exact .of_enterIdle s u
  · split
    · exact .of_enterFault s _ _
    · exact .out h.notArmed (by simp) (by simp) h.settled

theorem State.MayArm.dropTracked (h : s.MayArm u) : s.MayArm u.dropTracked := by
  unfold State.dropTracked
  split
  · exact (h.setIu _).setCt _
  · exact h

theorem State.MayArm.trackedCycleEnd (h : s.MayArm u) (now : Instant) (emptied : Bool) (m' : Image) :
    s.ArmsAs c (u.trackedCycleEnd c now emptied m') := by
  unfold State.trackedCycleEnd
  dsimp only
  split
  · refine State.MayArm.armsAs (State.MayArm.dropTracked ?_)
    split
    · exact h.failAttempt now
    · exact h
  · have hfailed : s.MayArm (if u.sc.state = .joining ∧ m'.lists c.id = false then u.failAttempt c now else u) := by
      split
      · exact h.failAttempt now
      · exact h
    generalize (if u.sc.state = .joining ∧ m'.lists c.id = false then u.failAttempt c now else u) = v at hfailed ⊢
    split
    · exact hfailed.timerCycleEnd now
    · exact hfailed.armsAs

theorem TrunkInterface.dropArmed_of_not_armed {t : TrunkInterface} (h : t.tx ≠ .armed) : t.dropArmed = t := if_neg h

theorem State.MayArm.of_leftByLeave (s u : State) : s.MayArm u.leftByLeave :=
  .out (by simp [State.leftByLeave, State.enterIdle, State.offTrunk, TrunkInterface.noFrame]) (by simp [State.leftByLeave, State.enterIdle])
    (by simp [State.leftByLeave, State.enterIdle]) (by simp [State.leftByLeave, State.enterIdle])

theorem State.MayArm.evicted (h : s.MayArm u) (now : Instant) : s.MayArm (u.evicted c now) :=
  .out (by simp [State.evicted, State.leaveMember, State.listenUntimed, TrunkInterface.dropArmed_of_not_armed h.notArmed, h.notArmed])
    (by simp [State.evicted, State.listenUntimed]) (by simp [State.evicted, State.listenUntimed])
    (by simp [State.evicted, State.leaveMember, State.listenUntimed, h.settled])

theorem State.MayArm.staysMember (h : s.MayArm u) (now : Instant) (m after : Image) (change : HaltChange) :
    s.ArmsAs c (u.staysMember c now m after change) := by
  refine State.MayArm.timerCycleEnd (h.congr ?_ ?_ ?_ ?_ ?_) now <;> simp

theorem State.MayArm.countRefusedJoin (h : s.MayArm u) (refused : Bool) : s.MayArm (u.countRefusedJoin refused) := by
  unfold State.countRefusedJoin
  split
  · exact h.congr rfl rfl rfl rfl rfl
  · exact h

theorem State.MayArm.memberCycleEnd (h : s.MayArm u) (now : Instant) (m m' : Image) : s.ArmsAs c (u.memberCycleEnd c now m m') := by
  unfold State.memberCycleEnd
  dsimp only
  split
  · exact (h.countRefusedJoin _).staysMember now m m' _
  · split
    · exact (State.MayArm.of_leftByLeave s _).armsAs
    · exact ((h.countRefusedJoin _).evicted now).armsAs

theorem State.MayArm.cycleEnd (h : s.MayArm u) (now : Instant) : s.ArmsAs c (u.cycleEnd c now) := by
  unfold State.cycleEnd
  split
  · have haged : s.MayArm (u.ageHalf c) := by refine h.congr ?_ ?_ ?_ ?_ ?_ <;> simp
    dsimp only
    split
    · exact haged.memberCycleEnd now _ _
    · exact (haged.setIu _).trackedCycleEnd now _ _
  · exact h.armsAs

theorem State.MayArm.founder (h : s.MayArm s) : s.MayArm (s.founder c) :=
  ⟨by simp [State.founder, TrunkInterface.dropArmed_of_not_armed h.notArmed, h.notArmed], fun _ => ⟨rfl, rfl⟩, h.settled⟩

/-! ### Summaries and the classes of a frame -/

theorem State.MayArm.adopt (h : s.MayArm u) (now : Instant) (closing : Bool) (sender : StationId) (summary : Image) :
    s.MayArm (u.adopt c now closing sender summary) := by
  refine h.congr ?_ ?_ ?_ ?_ ?_ <;> simp

theorem State.MayArm.evictedByAdoption (h : s.MayArm u) (now : Instant) (closing : Bool) (sender : StationId) (summary : Image) :
    s.MayArm (u.evictedByAdoption c now closing sender summary) :=
  .out (by simp [State.evictedByAdoption, State.leaveMember, TrunkInterface.dropArmed_of_not_armed h.notArmed, h.notArmed])
    (by simp [State.evictedByAdoption, State.listenTracking]) (by simp [State.evictedByAdoption, State.listenTracking])
    (by simp [State.evictedByAdoption, State.leaveMember, State.listenTracking, h.settled])

theorem State.MayArm.yieldTo (h : s.MayArm u) (now : Instant) (closing : Bool) (sender : StationId) (summary : Image) :
    s.MayArm (u.yieldTo c now closing sender summary) :=
  .out (by simp [State.yieldTo, State.leaveMember, TrunkInterface.dropArmed_of_not_armed h.notArmed, h.notArmed])
    (by simp [State.yieldTo, State.listenTracking]) (by simp [State.yieldTo, State.listenTracking])
    (by simp [State.yieldTo, State.leaveMember, State.listenTracking, h.settled])

theorem State.MayArm.trackSummary (h : s.MayArm u) (now : Instant) (closing known : Bool) (sender : StationId) (summary : Image) :
    s.MayArm (u.trackSummary c now closing known sender summary) := by
  refine h.congr ?_ ?_ ?_ ?_ ?_ <;> simp

theorem State.MayArm.confirmJoin (h : s.MayArm u) (hs : u.sc.state = .joining) (now : Instant) (closing known : Bool) (sender : StationId)
    (summary : Image) : s.MayArm (u.confirmJoin c now closing known sender summary) :=
  ⟨by simpa using h.notArmed, fun _ => by simpa using h.kept (.inr hs), by simpa [State.confirmJoin] using h.settled⟩

theorem State.MayArm.goDoubtful (h : s.MayArm u) : s.MayArm u.goDoubtful := by
  refine h.congr ?_ ?_ ?_ ?_ ?_ <;> simp

theorem State.MayArm.memberSummary (h : s.MayArm u) (now : Instant) (closing : Bool) (sender : StationId) (summary m : Image) :
    s.MayArm (u.memberSummary c now closing sender summary m).1 := by
  unfold State.memberSummary
  (repeat' split)
  · exact h.goDoubtful
  · exact h.setCt _
  · exact h.adopt now closing sender summary
  · exact h.evictedByAdoption now closing sender summary
  · exact h.adopt now closing sender summary
  · exact h
  · exact h.yieldTo now closing sender summary
  · exact h

theorem State.MayArm.takeSummary (h : s.MayArm u) (now : Instant) (closing : Bool) (sender : StationId) (summary : Image) :
    s.MayArm (u.takeSummary c now closing sender summary).1 := by
  unfold State.takeSummary
  split
  · exact h.memberSummary now closing sender summary _
  · exact h.trackSummary now closing _ sender summary
  next hs =>
    split
    · exact h.confirmJoin hs now closing _ sender summary
    · exact (h.trackSummary now closing _ sender summary).failAttempt now
  · exact h

theorem State.MayArm.countInconsistent (h : s.MayArm u) : s.MayArm u.countInconsistent := h.congr rfl rfl rfl rfl rfl

theorem State.MayArm.applyItems (h : s.MayArm u) (own sender : StationId) (items : List Item) : s.MayArm (u.applyItems own sender items) := by
  refine h.congr ?_ ?_ ?_ ?_ ?_ <;> simp

theorem State.MayArm.listedBeat (h : s.MayArm u) (m : Image) (p : Nat) (outcome : SummaryOutcome) (b : Beat) :
    s.MayArm (u.listedBeat c m p outcome b) := by
  unfold State.listedBeat
  dsimp only
  (repeat' split)
  · exact h.countInconsistent.goDoubtful
  · exact h.countInconsistent
  · exact h.applyItems _ _ _

theorem State.MayArm.soundBeat (h : s.MayArm u) (now : Instant) (closing : Bool) (b : Beat) : s.MayArm (u.soundBeat c now closing b).state := by
  have hstep : s.MayArm (u.summaryStep c now closing b).1 := by
    unfold State.summaryStep
    split
    · exact h.takeSummary now closing b.sender _
    · exact h
  obtain ⟨⟨v, outcome⟩, hv⟩ : ∃ step, u.summaryStep c now closing b = step := ⟨_, rfl⟩
  rw [hv] at hstep
  cases hm : v.iu.image with
  | none => rwa [State.soundBeat_unplaced hv hm]
  | some m =>
    cases hp : m.position b.sender with
    | none =>
      rw [State.soundBeat_foreign hv hm hp]
      exact hstep.congr rfl rfl rfl rfl rfl
    | some p =>
      rw [State.soundBeat_listed hv hm hp]
      exact (hstep.listedBeat m p outcome b).congr rfl rfl rfl rfl rfl

theorem State.MayArm.classify (h : s.MayArm u) (now : Instant) (closing inWindow : Bool) (line : List Bool) :
    s.MayArm (u.classify c now closing inWindow line).state := by
  have herror : s.MayArm u.receiveError := by
    refine State.MayArm.goDoubtful (State.MayArm.congr h ?_ ?_ ?_ ?_ ?_) <;> rfl
  unfold State.classify
  split
  · exact herror
  · exact herror
  · split
    · exact .of_enterFault s u _
    · unfold State.joinHeard
      split
      · exact h.setIu _
      · exact h.countInconsistent
  · split
    · exact .of_enterFault s u _
    · split
      · exact h.soundBeat now closing _
      · unfold State.structureFailed
        dsimp only
        split
        · exact h.countInconsistent.setCt _
        · exact h.countInconsistent

/-! ### The end of a frame -/

theorem State.MayArm.settle (h : s.MayArm u) (now : Instant) (closing : Bool) (timing : Timing) :
    s.ArmsAs c (u.settle c now closing timing) := by
  unfold State.settle
  (repeat' split)
  · exact h.armsAs
  · exact (h.setCt _).armsAs
  · exact h.movePointer now _
  · exact (h.setCt _).armsAs
  · exact h.movePointer now _

theorem State.ArmsAs.handOver (h : s.ArmsAs c u) (origin : StationId) (records : List Record) : s.ArmsAs c (u.handOver c origin records) := by
  refine h.congr ?_ ?_ ?_ ?_ ?_ ?_ ?_ <;> simp

theorem State.MayArm.handOver (h : s.MayArm u) (origin : StationId) (records : List Record) : s.MayArm (u.handOver c origin records) := by
  refine h.congr ?_ ?_ ?_ ?_ ?_ <;> simp

theorem State.MayArm.closeWindow (h : s.MayArm u) (now : Instant) (origin : StationId) (records : List Record) :
    s.ArmsAs c (u.closeWindow c now origin records) := by
  have hdrawn : s.MayArm (u.setFree (u.free + 1)) := h.congr rfl rfl rfl rfl rfl
  unfold State.closeWindow
  dsimp only
  (repeat' split)
  · exact (hdrawn.handOver origin records).cycleEnd now
  · exact (hdrawn.cycleEnd now).handOver origin records
  · exact h.cycleEnd now

theorem State.MayArm.finish (h : s.MayArm u) (now : Instant) (closing : Bool) (origin : StationId) (records : List Record) :
    s.ArmsAs c (u.finish c now closing origin records) := by
  unfold State.finish
  split
  · exact h.closeWindow now origin records
  · exact (h.handOver origin records).armsAs

/-- A frame end: one that closes the window settles no slot before it, so that at most one assembly is made. -/
theorem State.MayArm.frameEnd (hidle : u.ti.tx = .idle) (h : s.MayArm u) (now : Instant) (line : List Bool) (inWindow : Bool) :
    s.ArmsAs c (u.frameEnd c now line inWindow) := by
  rw [State.frameEnd_idle hidle]
  dsimp only
  have hclass : s.MayArm ((u.setTi { u.ti with receiving := none }).classify c now (inWindow && u.ct.state == .window) inWindow line).state :=
    (h.congr (v := u.setTi { u.ti with receiving := none }) rfl rfl rfl rfl rfl).classify now _ inWindow line
  generalize (u.setTi { u.ti with receiving := none }).classify c now (inWindow && u.ct.state == .window) inWindow line = handled at hclass
  have hsettle := hclass.settle (c := c) now (inWindow && u.ct.state == .window) handled.timing
  rw [hsettle.refreshArmed, State.takeDeferredLeave_of_none hsettle.settled]
  cases (inWindow && u.ct.state == .window) with
  | true => rw [State.settle_closing]; exact hclass.finish now true _ _
  | false => rw [State.finish_open]; exact (hclass.settle now false handled.timing).handOver _ _

end Operations

/-- What a command leaves ARMED at a transmitter that was IDLE is no BEAT, or the assembly that the statements describe. -/
theorem State.after_armsAs {s : State} {c : StationConfig} (hc : s.cfg = some c) (hidle : s.ti.tx = .idle)
    (hleave : s.sc.deferredLeave = false) (i : Instr) (ht : (s.after i).ti.tx = .armed) (hb : (s.after i).holdsBeat = true) :
    ∃ now, s.assembles c now (s.after i) := by
  have hself : s.MayArm s := ⟨by simp [hidle], fun _ => ⟨rfl, rfl⟩, hleave⟩
  suffices hends : (s.after i).ti.tx ≠ .armed ∨ s.ArmsAs c (s.after i) from hends.elim (absurd ht) fun h => h.assembled ht hb
  have hstays : s.ti.tx ≠ .armed := by simp [hidle]
  have hfault : ∀ reason, (s.enterFault reason).ti.tx ≠ .armed := fun reason => (State.MayArm.of_enterFault s s reason).notArmed
  have hloadFails : ∀ reason, (s.failLoad reason).ti.tx ≠ .armed := fun reason =>
    (State.MayArm.of_enterFault s (s.setLd { s.ld with phase := .failed, bytes := [], timer := none }) reason).notArmed
  cases i with
  | powerOn | resetnLow => exact .inl nofun
  | selectRelease now =>
    refine .inl ?_
    simp only [State.after, exec, execSelectRelease]
    split
    · exact nofun
    · exact hstays
  | powerOnDelayExpiry | resetnRise | imageByte | holdoffExpiry =>
    refine .inl ?_
    simp only [State.after, exec, execPowerOnDelayExpiry, execResetnRise, execImageByte, execHoldoffExpiry, State.startLoading]
    (repeat' split) <;> exact hstays
  | readbackMismatch | arbitrationLoss | startGuardExpiry | abortMarkEnd =>
    refine .inl ?_
    simp [State.after, exec, execReadbackMismatch, execArbitrationLoss, execStartGuardExpiry, execAbortMarkEnd, State.frameInFlight, hidle]
  | busClear | addressByte | loadTimeout =>
    refine .inl ?_
    simp only [State.after, exec, execBusClear, execAddressByte, execLoadTimeout]
    (repeat' split) <;> simp [hloadFails, hidle]
  | checking now =>
    refine .inl ?_
    simp only [State.after, exec, execChecking]
    (repeat' split) <;> simp [hloadFails, hidle]
  | frameStart now =>
    have hheard : s.MayArm ((s.setTi { s.ti with receiving := some (s.ct.state == .window) }).restartFounding c now) := by
      unfold State.restartFounding
      split <;> exact hself.congr rfl rfl rfl rfl rfl
    refine .inr ?_
    simp only [State.after, exec, execFrameStart, State.configured_some hc]
    split
    · split
      · exact hheard.openCycle now true
      · exact (hheard.setCt _).armsAs
      · exact (hheard.setCt _).armsAs
      all_goals exact hheard.armsAs
    · exact hself.armsAs
  | frameEnd now line =>
    refine .inr ?_
    simp only [State.after, exec, execFrameEnd, State.configured_some hc]
    (repeat' split)
    · exact hself.frameEnd hidle now line _
    all_goals exact hself.armsAs
  | slotPasses =>
    refine .inr ?_
    simp only [State.after, exec, execSlotPasses, State.configured_some hc]
    split
    · exact hself.movePointer _ _
    · exact hself.armsAs
  | joinWindowTimerExpiry =>
    refine .inr ?_
    simp only [State.after, exec, execJoinWindowTimerExpiry, State.configured_some hc]
    split
    · exact hself.cycleEnd _
    · exact hself.armsAs
  | cycleOpening =>
    refine .inr ?_
    simp only [State.after, exec, execCycleOpening, State.configured_some hc]
    split
    · exact hself.openCycle _ _
    · exact hself.armsAs
  | foundingTimerExpiry =>
    simp only [State.after, exec, execFoundingTimerExpiry, State.configured_some hc]
    split
    · split
      · exact .inr (State.MayArm.openCycle (s := s) (u := s.founder c) hself.founder _ _)
      · exact .inl hstays
    · exact .inl hstays
  | frameBegin | phase | trigRisingEdge | conversionComplete =>
    refine .inl ?_
    simp only [State.after, exec, execFrameBegin, execPhase, execTrigRisingEdge, execConversionComplete, State.configured_some hc]
    (repeat' split) <;> simp [hidle]
  | join now =>
    refine .inl (State.portCommand_keeps (P := fun u => u.ti.tx ≠ .armed) hstays ?_)
    unfold State.takeJoin
    (repeat' split) <;> simp [hidle]
  | leave =>
    have hidles : ∀ x, (s.setSc x).enterIdle.ti.tx ≠ .armed := fun x => (State.MayArm.of_enterIdle s _).notArmed
    refine .inl (State.portCommand_keeps (P := fun u => u.ti.tx ≠ .armed) hstays ?_)
    unfold State.takeLeaveCommand State.takeLeave
    (repeat' split) <;> simp [hidle, hidles]
  | status | events | roster | read | release | close | capture | halt | resumeCommand | reset | unknown =>
    refine .inl (State.portCommand_keeps (P := fun u => u.ti.tx ≠ .armed) hstays ?_)
    simp [hidle]

/-- Settles O29. -/
theorem ownSlotAssemblesTheBeat : Obligations.OwnSlotAssemblesTheBeat := by
  refine ⟨fun s c m e hc hs hm hstate he hp hlt ht => slotPasses_assembles hc hs hm hstate he hp hlt ht,
    fun i s t c hc hidle hleave hexec harmed hframe => ?_⟩
  obtain rfl := State.after_of_exec hexec
  obtain ⟨d, e, y, p, k, l, x, hframe⟩ := hframe
  exact State.after_armsAs hc hidle hleave i harmed (by simp [State.holdsBeat, hframe, OwnFrame.isBeat])

end Sys2Proof.Machine
end

section
/-! The cycle end (R15, R23, R32, R72, R80 to R84, R140): at a MEMBER that stays and at one that leaves. -/

open Sys2Proof

namespace Sys2Proof.Machine

/-! ### Flags -/

/-- R173: a flag already set stays set. -/
theorem State.flag_raise_of_flag (f g : EventFlag) {s : State} (h : s.flag g = true) : (s.raise f).flag g = true := by
  by_cases heq : g = f
  · rw [heq]; exact State.flag_raise_self f s
  · rw [State.flag_raise_other f g s heq, h]

/-! ### The CT at the cycle end (R23) -/

section TimerCycleEnd

variable {s : State} {c : StationConfig} {now : Instant} {k : Mark}

theorem State.timerCycleEnd_waits (hk : s.ct.mark = some k) (h : now < k.instant + c.period * unitsPerMicrosecond) :
    s.timerCycleEnd c now = s.setCt { s.ct with
      state := .interval, silence := none, window := none,
      nextOpening := some (k.instant + c.period * unitsPerMicrosecond) } := by
  simp only [State.timerCycleEnd, hk]
  exact if_neg (Nat.not_le.2 h)

theorem State.timerCycleEnd_overruns (hk : s.ct.mark = some k) (h : k.instant + c.period * unitsPerMicrosecond ≤ now) :
    s.timerCycleEnd c now = s.openCycle c now false := by
  simp only [State.timerCycleEnd, hk]
  exact if_pos h

theorem State.timerCycleEnd_unmarked (hk : s.ct.mark = none) : s.timerCycleEnd c now = s.setCt { s.ct with
    state := .interval, silence := none, window := none, nextOpening := none } := by
  simp only [State.timerCycleEnd, hk]

end TimerCycleEnd

theorem exec_joinWindowTimerExpiry {s : State} {c : StationConfig} {e : Instant} (hc : s.cfg = some c) (hstate : s.ct.state = .window)
    (he : s.ct.window = some e) : exec .joinWindowTimerExpiry s = .next (s.cycleEnd c e) := by
  simp only [exec, execJoinWindowTimerExpiry, State.configured_some hc, hstate, he]

/-! ### Certainty (R15) -/

theorem Image.lowestHeard_iff (m : Image) (heard : IdSet) (own : StationId) :
    m.lowestHeard heard own = true ↔ ∀ i ∈ m.ids, IdSet.has heard i = true → own ≤ i := by
  simp only [Image.lowestHeard, List.all_eq_true, Bool.or_eq_true, Bool.not_eq_true', decide_eq_true_eq]
  refine forall₂_congr fun i _ => ?_
  cases IdSet.has heard i <;> simp

section Affirmed

variable (m : Image) (own : StationId) (heard : IdSet)

theorem affirmed_of_synced (seen : Bool) : affirmed m own heard seen (some .synced) = some .synced :=
  if_neg nofun

theorem affirmed_of_seen : affirmed m own heard true (some .doubtful) = some .doubtful :=
  if_neg nofun

variable {m own heard}

theorem affirmed_of_lowest (h : ∀ i ∈ m.ids, IdSet.has heard i = true → own ≤ i) :
    affirmed m own heard false (some .doubtful) = some .synced :=
  if_pos ⟨rfl, rfl, (m.lowestHeard_iff heard own).2 h⟩

theorem affirmed_of_lower (h : ∃ i ∈ m.ids, IdSet.has heard i = true ∧ i < own) :
    affirmed m own heard false (some .doubtful) = some .doubtful := by
  obtain ⟨i, hi, hheard, hlt⟩ := h
  exact if_neg fun ⟨_, _, hlow⟩ => absurd ((m.lowestHeard_iff heard own).1 hlow i hi hheard) (not_le.2 hlt)

end Affirmed

/-! ### The cycle end at a MEMBER -/

section Member

variable {s : State} {c : StationConfig} {m : Image}

/-- R72: the count of refused joins after the cycle end. -/
theorem State.countRefusedJoin_sc (s : State) (m : Image) (k : Marks) (heard : IdSet) :
    (s.countRefusedJoin (m.refusesJoin k heard)).sc = { s.sc with
      refusedJoins := if k.join.isSome ∧ m.admission k heard = none then
        (if s.sc.refusedJoins < 255 then s.sc.refusedJoins + 1 else 255) else s.sc.refusedJoins } := by
  have hrefuses : m.refusesJoin k heard = true ↔ k.join.isSome ∧ m.admission k heard = none := by
    simp [Image.refusesJoin]
  unfold State.countRefusedJoin
  split
  next h => rw [if_pos (hrefuses.1 h)]; rfl
  next h => rw [if_neg (mt hrefuses.2 h)]

variable (hm : s.iu.image = some m) (hs : s.sc.state = .member)
include hm hs

/-- The station of a MEMBER as its cycle end begins: the half aged, the refused join counted (R72, R162). -/
theorem State.cycleEnd_of_member (c : StationConfig) (now : Instant) :
    s.cycleEnd c now = (s.ageHalf c).memberCycleEnd c now m (m.cycleEnd s.iu.marks s.ct.heard s.ct.plan c.digest c.plan.length) := by
  simp only [State.cycleEnd, hm]
  rw [if_pos (by simpa using hs)]

theorem State.cycleEnd_stays (c : StationConfig) (now : Instant)
    (hlists : (m.cycleEnd s.iu.marks s.ct.heard s.ct.plan c.digest c.plan.length).lists c.id = true) :
    s.cycleEnd c now = ((s.ageHalf c).countRefusedJoin (m.refusesJoin s.iu.marks s.ct.heard)).staysMember c now m
      (m.cycleEnd s.iu.marks s.ct.heard s.ct.plan c.digest c.plan.length) (m.haltChange s.iu.marks s.ct.heard) := by
  rw [State.cycleEnd_of_member hm hs, State.memberCycleEnd]
  simp only [State.ageHalf_unchanged, if_pos hlists]

theorem State.cycleEnd_left (c : StationConfig) (now : Instant)
    (hlists : (m.cycleEnd s.iu.marks s.ct.heard s.ct.plan c.digest c.plan.length).lists c.id = false)
    (hleft : IdSet.has s.iu.marks.leavers c.id = true) :
    s.cycleEnd c now = ((s.ageHalf c).countRefusedJoin (m.refusesJoin s.iu.marks s.ct.heard)).leftByLeave := by
  rw [State.cycleEnd_of_member hm hs, State.memberCycleEnd]
  simp only [State.ageHalf_unchanged, hlists, Bool.false_eq_true, if_false, if_pos hleft]

theorem State.cycleEnd_evicted (c : StationConfig) (now : Instant)
    (hlists : (m.cycleEnd s.iu.marks s.ct.heard s.ct.plan c.digest c.plan.length).lists c.id = false)
    (hleft : IdSet.has s.iu.marks.leavers c.id = false) :
    s.cycleEnd c now = ((s.ageHalf c).countRefusedJoin (m.refusesJoin s.iu.marks s.ct.heard)).evicted c now := by
  rw [State.cycleEnd_of_member hm hs, State.memberCycleEnd]
  simp only [State.ageHalf_unchanged, hlists, hleft, Bool.false_eq_true, if_false]

end Member

/-- R140: the halt report and the flag of each change. -/
theorem State.reportHalt_spec (s : State) (change : HaltChange) :
    (change = .none → (s.reportHalt change).halt = s.halt) ∧
      (change = .complete → (s.reportHalt change).halt = { outcome := .complete, unacked := 0 } ∧
        (s.reportHalt change).flag .halted = true) ∧
      (∀ ids, change = .incomplete ids → (s.reportHalt change).halt = { outcome := .incomplete, unacked := ids } ∧
        (s.reportHalt change).flag .halted = true) ∧
      (change = .resumed → (s.reportHalt change).halt = { outcome := .none, unacked := 0 } ∧
        (s.reportHalt change).flag .resumed = true) := by
  refine ⟨?_, ?_, ?_, ?_⟩
  · rintro rfl; rfl
  · rintro rfl; exact ⟨rfl, State.flag_raise_self _ _⟩
  · rintro ids rfl; exact ⟨rfl, State.flag_raise_self _ _⟩
  · rintro rfl; exact ⟨rfl, State.flag_raise_self _ _⟩

theorem State.flag_reportHalt_of_flag {s : State} {g : EventFlag} (h : s.flag g = true) (change : HaltChange) :
    (s.reportHalt change).flag g = true := by
  cases change with
  | none => exact h
  | complete | incomplete | resumed => exact State.flag_raise_of_flag _ g h

theorem State.reportEpoch_flag {before after : Word16} (h : after ≠ before) (s : State) : (s.reportEpoch before after).flag .roster = true := by
  rw [State.reportEpoch, if_neg (Ne.symm h)]
  exact State.flag_raise_self _ _

/-- The station of a MEMBER that stays, before its CT goes on (R6, R15, R140, R173). -/
def State.renewed (c : StationConfig) (m after : Image) (change : HaltChange) (s : State) : State :=
  ((s.setIu { image := some after, copy := some after, certainty := affirmed m c.id s.ct.heard s.ct.summarySeen s.iu.certainty,
              marks := .empty }).reportEpoch m.epoch after.epoch).reportHalt change

theorem State.staysMember_eq (s : State) (c : StationConfig) (now : Instant) (m after : Image) (change : HaltChange) :
    s.staysMember c now m after change = (s.renewed c m after change).timerCycleEnd c now := rfl

@[simp] theorem State.renewed_unchanged (s : State) (c : StationConfig) (m after : Image) (change : HaltChange) :
    (s.renewed c m after change).sc = s.sc ∧ (s.renewed c m after change).ct = s.ct ∧ (s.renewed c m after change).ti = s.ti ∧
      (s.renewed c m after change).cb = s.cb ∧ (s.renewed c m after change).rt = s.rt ∧ (s.renewed c m after change).du = s.du ∧
      (s.renewed c m after change).sq = s.sq ∧ (s.renewed c m after change).rm = s.rm ∧ (s.renewed c m after change).rc = s.rc := by
  simp [State.renewed]

@[simp] theorem State.renewed_iu (s : State) (c : StationConfig) (m after : Image) (change : HaltChange) :
    (s.renewed c m after change).iu = {
      image := some after, copy := some after, certainty := affirmed m c.id s.ct.heard s.ct.summarySeen s.iu.certainty,
      marks := .empty } := by
  simp [State.renewed]

theorem State.renewed_flag_roster {m after : Image} (h : after.epoch ≠ m.epoch) (s : State) (c : StationConfig) (change : HaltChange) :
    (s.renewed c m after change).flag .roster = true :=
  State.flag_reportHalt_of_flag (State.reportEpoch_flag h _) change

/-- R140: what the cycle end of a MEMBER reports of its halt part. -/
theorem State.renewed_halt (s : State) (c : StationConfig) (m after : Image) (change : HaltChange) :
    (change = .none → (s.renewed c m after change).halt = s.halt) ∧
      (change = .complete → (s.renewed c m after change).halt = { outcome := .complete, unacked := 0 } ∧
        (s.renewed c m after change).flag .halted = true) ∧
      (∀ ids, change = .incomplete ids → (s.renewed c m after change).halt = { outcome := .incomplete, unacked := ids } ∧
        (s.renewed c m after change).flag .halted = true) ∧
      (change = .resumed → (s.renewed c m after change).halt = { outcome := .none, unacked := 0 } ∧
        (s.renewed c m after change).flag .resumed = true) := by
  obtain ⟨hnone, hcomplete, hincomplete, hresumed⟩ := State.reportHalt_spec
    ((s.setIu { image := some after, copy := some after, certainty := affirmed m c.id s.ct.heard s.ct.summarySeen s.iu.certainty,
                marks := .empty }).reportEpoch m.epoch after.epoch) change
  refine ⟨fun h => (hnone h).trans ?_, hcomplete, hincomplete, hresumed⟩
  simp

@[simp] theorem State.timerCycleEnd_flag (s : State) (c : StationConfig) (now : Instant) (f : EventFlag) :
    (s.timerCycleEnd c now).flag f = s.flag f := by
  simp [State.flag]

/-- Settles O31. -/
theorem windowExpiryIsTheCycleEnd : Obligations.WindowExpiryIsTheCycleEnd := by
  intro s c m e hc hs hm hstate he m' hlists
  have hend := State.cycleEnd_stays hm hs c e hlists
  rw [State.staysMember_eq] at hend
  obtain ⟨u, hu⟩ : ∃ u, u = ((s.ageHalf c).countRefusedJoin (m.refusesJoin s.iu.marks s.ct.heard)).renewed c m m'
    (m.haltChange s.iu.marks s.ct.heard) := ⟨_, rfl⟩
  have hiu : u.iu = { image := some m', copy := some m',
                      certainty := affirmed m c.id s.ct.heard s.ct.summarySeen s.iu.certainty, marks := .empty } := by
    rw [hu]; simp
  have hsc : u.sc = { s.sc with
      refusedJoins := if s.iu.marks.join.isSome ∧ m.admission s.iu.marks s.ct.heard = none then
        (if s.sc.refusedJoins < 255 then s.sc.refusedJoins + 1 else 255) else s.sc.refusedJoins } := by
    rw [hu, (State.renewed_unchanged _ c m m' _).1, State.countRefusedJoin_sc, (State.ageHalf_unchanged s c).1]
  have hct : u.ct = s.ct := by rw [hu]; simp
  have hti : u.ti = s.ti := by rw [hu]; simp
  have hcb : u.cb = s.cb := by rw [hu]; simp
  have hrt : u.rt = s.rt := by rw [hu]; simp
  have hcertainty : (u.timerCycleEnd c e).iu.certainty = affirmed m c.id s.ct.heard s.ct.summarySeen s.iu.certainty := by
    rw [(State.timerCycleEnd_unchanged u c e).2.1, hiu]
  have hhalt := State.renewed_halt ((s.ageHalf c).countRefusedJoin (m.refusesJoin s.iu.marks s.ct.heard)) c m m'
    (m.haltChange s.iu.marks s.ct.heard)
  rw [← hu] at hend hhalt
  refine ⟨u.timerCycleEnd c e, by rw [exec_joinWindowTimerExpiry hc hstate he, hend], by simp [hiu], by simp [hiu], by simp [hiu],
    by simp [m', Image.cycleEnd], by simp [m', Image.cycleEnd], by simpa using hsc, by simp [hu], fun h => ?_, fun h hseen => ?_,
    fun h hseen => ⟨fun hlow => ?_, fun hlower => ?_⟩, fun k hk hlt => ?_, fun k hk hle => ?_, fun hk => ?_, by simp [hu], by simp [hu],
    by simp [hu], fun hepoch => ?_, fun change hchange => ?_⟩
  · rw [hcertainty, h, affirmed_of_synced]
  · rw [hcertainty, h, hseen, affirmed_of_seen]
  · rw [hcertainty, h, hseen, affirmed_of_lowest hlow]
  · rw [hcertainty, h, hseen, affirmed_of_lower hlower]
  · rw [State.timerCycleEnd_waits (by rw [hct, hk]) hlt]
    exact ⟨rfl, rfl, by rw [← hct]; rfl⟩
  · have hm' : u.iu.image = some m' := by rw [hiu]
    have hstate' : u.sc.state = .member := by rw [hsc]; exact hs
    rw [State.timerCycleEnd_overruns (by rw [hct, hk]) hle]
    have hopens := State.openCycle_opensWith hm' c e false
    rw [show u.sc.departing = s.sc.departing by rw [hsc]] at hopens
    obtain ⟨hslots, -, hheard, -, hmark, -⟩ := id hopens
    refine ⟨hslots, hmark, hheard, hopens, fun hp ht => ?_⟩
    exact (State.assembles_congr hrt hcb c e _).1 (State.openCycle_assembles hstate' hm' hp (.inl (by rw [hti, ht])) e false)
  · rw [State.timerCycleEnd_unmarked (by rw [hct, hk])]
    exact ⟨rfl, rfl⟩
  · rw [State.timerCycleEnd_flag, hu]
    exact State.renewed_flag_roster hepoch _ c _
  · rw [hchange] at hhalt
    simpa using hhalt

/-! ### The departures at a cycle end -/

/-- R81: what every departure leaves of pending set, records, conversions and halt report. -/
structure State.Departed (s t : State) : Prop where
  noImage : t.iu = .empty
  pending : t.cb = s.cb.discarded
  records : t.rt = s.rt.discarded
  conversions : t.sq = { s.sq with inFlight := s.sq.inFlight.map (fun v => { v with discard := true }) }
  report : t.halt = .empty
  removed : t.flag .removed = true
  stays : t.sc.departing = false
  joins : t.sc.refusedJoins = s.sc.refusedJoins

theorem State.leftByLeave_departed (s : State) : s.Departed s.leftByLeave :=
  ⟨rfl, rfl, rfl, rfl, rfl, State.flag_raise_self .removed _, rfl, rfl⟩

theorem State.evicted_departed (s : State) (c : StationConfig) (now : Instant) : s.Departed (s.evicted c now) :=
  ⟨rfl, rfl, rfl, rfl, rfl, State.flag_raise_self .removed _, rfl, rfl⟩

/-- Settles O32. -/
theorem removalAtTheCycleEndDeparts : Obligations.RemovalAtTheCycleEndDeparts := by
  intro s c m e hc hs hm hstate he harmed hlists
  obtain ⟨u, hu⟩ : ∃ u, u = (s.ageHalf c).countRefusedJoin (m.refusesJoin s.iu.marks s.ct.heard) := ⟨_, rfl⟩
  have hleft := State.cycleEnd_left hm hs c e hlists
  have hevicted := State.cycleEnd_evicted hm hs c e hlists
  rw [← hu] at hleft hevicted
  have hsc : u.sc = { s.sc with
      refusedJoins := if s.iu.marks.join.isSome ∧ m.admission s.iu.marks s.ct.heard = none then
        (if s.sc.refusedJoins < 255 then s.sc.refusedJoins + 1 else 255) else s.sc.refusedJoins } := by
    rw [hu, State.countRefusedJoin_sc, (State.ageHalf_unchanged s c).1]
  have hcb : u.cb = s.cb := by simp [hu]
  have hsq : u.sq = s.sq := by simp [hu]
  have hti : u.ti = s.ti := by simp [hu]
  have hdu : u.du = (s.ageHalf c).du := by simp [hu]
  have hends : u.Departed (s.cycleEnd c e) := by
    cases hl : IdSet.has s.iu.marks.leavers c.id with
    | true => rw [hleft hl]; exact u.leftByLeave_departed
    | false => rw [hevicted hl]; exact u.evicted_departed c e
  obtain ⟨hiu, hpending, hrecords, hconversions, hreport, hremoved, hstays, hjoins⟩ := hends
  refine ⟨s.cycleEnd c e, exec_joinWindowTimerExpiry hc hstate he, hiu, ?_, ?_, ?_, ?_, ?_, ?_, ?_, by simp, hreport, hremoved, hstays,
    ?_, State.cycleEnd_du hm c e, fun hl => ?_, fun hl => ?_⟩
  · rw [hpending]; exact u.cb.discarded_isEmpty
  · rw [hpending, ItemBuffer.discarded_serial, hcb]
  · rw [hrecords]; rfl
  · rw [hrecords]; rfl
  · rw [hrecords]; rfl
  · rw [hconversions, hsq]
  · rw [hconversions, hsq]
  · rw [hjoins, hsc]
  · rw [hleft hl]
    refine ⟨rfl, rfl, rfl, ?_, rfl, rfl, rfl⟩
    change u.sc.holdoff = _
    rw [hsc]
  · rw [hevicted hl]
    refine ⟨rfl, rfl, rfl, rfl, rfl, ?_, ?_⟩
    · change u.sc.joiningWanted = _
      rw [hsc]
    · change u.ti.dropArmed = _
      rw [hti, TrunkInterface.dropArmed_of_not_armed harmed]

end Sys2Proof.Machine
end

section
/-! The cycle end at a station that holds a tracked image (R63, R66, R74, R75, R76). -/

open Sys2Proof

namespace Sys2Proof.Machine

/-! ### A failed join attempt (R75, R76) -/

section FailAttempt

variable {s : State} (c : StationConfig) (now : Instant)

theorem State.failAttempt_departing (h : s.sc.departing = true) : s.failAttempt c now = s.enterIdle := if_pos h

theorem State.failAttempt_exhausted (h : s.sc.departing = false) (hlast : 7 ≤ s.sc.attempts) :
    s.failAttempt c now = (s.setSc { s.sc with attempts := s.sc.attempts + 1 }).enterFault .joinFailed :=
  (if_neg (by simp [h])).trans (if_pos (by omega))

theorem State.failAttempt_listens (h : s.sc.departing = false) (hmore : s.sc.attempts < 7) :
    s.failAttempt c now = s.setSc { s.sc with
      state := .listen, attempts := s.sc.attempts + 1, founding := some (now + (4 + c.id.val) * (c.period * unitsPerMicrosecond)) } :=
  (if_neg (by simp [h])).trans (if_neg (by omega))

end FailAttempt

/-- FAULT at a station that is no MEMBER (R85): off the trunk, with nothing discarded but the image. -/
theorem State.enterFault_eq_of_not_member {s : State} (h : s.sc.state ≠ .member) (reason : FaultReason) :
    s.enterFault reason = (s.offTrunk.setSc { s.sc with
      state := .fault, faultReason := some reason, holdoff := none, founding := none, deferredLeave := false }).raise .fault := by
  simp only [State.enterFault, if_neg h]

/-! ### What follows a tracked image -/

section TrackedCycleEnd

variable {s : State} {c : StationConfig} {emptied : Bool} {m' : Image} (now : Instant)

theorem State.receiverOn_eq_false (h : s.sc.state = .idle ∨ s.sc.state = .fault) : s.receiverOn = false := by
  rcases h with h | h <;> simp [State.receiverOn, h]

theorem State.receiverOn_eq_true (h : s.sc.state = .listen ∨ s.sc.state = .joining) : s.receiverOn = true := by
  rcases h with h | h <;> simp [State.receiverOn, h]

/-- A JOINING station whose entry is not there after the cycle end, or whose image is discarded, has failed its attempt. -/
theorem State.trackedCycleEnd_failed (hs : s.sc.state = .joining) (h : emptied = true ∨ m'.lists c.id = false) :
    s.trackedCycleEnd c now emptied m' =
      if emptied then (s.failAttempt c now).dropTracked
      else if (s.failAttempt c now).receiverOn then (s.failAttempt c now).timerCycleEnd c now else s.failAttempt c now := by
  cases emptied with
  | true => simp only [State.trackedCycleEnd, hs, if_true]
  | false =>
    have hgone : m'.lists c.id = false := by simpa using h
    simp only [State.trackedCycleEnd, hs, hgone, and_self, if_true]

/-- A failed attempt that leads off the trunk ends the step. -/
theorem State.trackedCycleEnd_failed_off (hs : s.sc.state = .joining) (h : emptied = true ∨ m'.lists c.id = false)
    (hoff : (s.failAttempt c now).sc.state = .idle ∨ (s.failAttempt c now).sc.state = .fault) :
    s.trackedCycleEnd c now emptied m' = s.failAttempt c now := by
  have hnot : (s.failAttempt c now).sc.state ≠ .listen := fun hlisten => by
    rcases hoff with hoff | hoff <;> rw [hlisten] at hoff <;> cases hoff
  rw [State.trackedCycleEnd_failed now hs h, State.dropTracked_of_not_listen hnot, State.receiverOn_eq_false hoff]
  cases emptied <;> rfl

theorem State.trackedCycleEnd_kept_emptied (hs : s.sc.state = .listen) (h : emptied = true) :
    s.trackedCycleEnd c now emptied m' = s.dropTracked := by
  simp only [State.trackedCycleEnd, hs, h, if_true, reduceCtorEq, if_false]

theorem State.trackedCycleEnd_kept (hs : s.sc.state = .listen ∨ s.sc.state = .joining) (hempty : emptied = false)
    (h : ¬ (s.sc.state = .joining ∧ m'.lists c.id = false)) : s.trackedCycleEnd c now emptied m' = s.timerCycleEnd c now := by
  simp only [State.trackedCycleEnd, hempty, Bool.false_eq_true, if_false, if_neg h, State.receiverOn_eq_true hs, if_true]

theorem State.dropTracked_of_listen (hs : s.sc.state = .listen) :
    s.dropTracked = (s.setIu .empty).setCt { CycleTimer.stopped with state := .untimed } := if_pos hs

end TrackedCycleEnd

/-- R48: only a MEMBER assembles at an opening. -/
theorem State.openCycle_of_not_member {s : State} {m : Image} (hs : s.sc.state ≠ .member) (hm : s.iu.image = some m) (c : StationConfig)
    (now : Instant) (byFrame : Bool) :
    s.openCycle c now byFrame = (s.setCt (s.ct.opened c s.sc.departing now byFrame m)).inSlot c now := by
  rw [State.openCycle_of_image hm]
  exact State.slotBegins_other (s := s.setCt (s.ct.opened c s.sc.departing now byFrame m)) (fun h => hs h.1) c now

/-- What the CT does at the cycle end of a tracked image (R23, R63). -/
theorem State.timerCycleEnd_tracked {s : State} {m' : Image} (hs : s.sc.state ≠ .member) (hm : s.iu.image = some m') (c : StationConfig)
    (now : Instant) :
    (s.timerCycleEnd c now).ti = s.ti ∧ (s.timerCycleEnd c now).iu = s.iu ∧
      (∀ k, s.ct.mark = some k → now < k.instant + c.period * unitsPerMicrosecond →
        (s.timerCycleEnd c now).ct = { s.ct with
          state := .interval, silence := none, window := none,
          nextOpening := some (k.instant + c.period * unitsPerMicrosecond) }) ∧
      (∀ k, s.ct.mark = some k → k.instant + c.period * unitsPerMicrosecond ≤ now →
        (s.timerCycleEnd c now).ct.opensWith c m' s.sc.departing now true) ∧
      (s.ct.mark = none →
        (s.timerCycleEnd c now).ct = { s.ct with state := .interval, silence := none, window := none, nextOpening := none }) := by
  refine ⟨?_, by simp, fun k hk hlt => ?_, fun k hk hle => ?_, fun hk => ?_⟩
  · cases hk : s.ct.mark with
    | none => rw [State.timerCycleEnd_unmarked hk]; rfl
    | some k =>
      rcases Nat.lt_or_ge now (k.instant + c.period * unitsPerMicrosecond) with hlt | hle
      · rw [State.timerCycleEnd_waits hk hlt]; rfl
      · rw [State.timerCycleEnd_overruns hk hle, State.openCycle_of_not_member hs hm]; rfl
  · rw [State.timerCycleEnd_waits hk hlt]; rfl
  · rw [State.timerCycleEnd_overruns hk hle]; exact State.openCycle_opensWith hm c now false
  · rw [State.timerCycleEnd_unmarked hk]; rfl

/-- The station whose tracked image has had its cycle end, before station and CT follow. -/
def State.trackedEnded (c : StationConfig) (m' : Image) (s : State) : State :=
  (s.ageHalf c).setIu { s.iu with image := some m', marks := .empty }

theorem State.cycleEnd_of_not_member {s : State} {m : Image} (hm : s.iu.image = some m) (hs : s.sc.state ≠ .member) (c : StationConfig)
    (now : Instant) :
    s.cycleEnd c now = (s.trackedEnded c (m.cycleEnd s.iu.marks s.ct.heard s.ct.plan c.digest c.plan.length)).trackedCycleEnd c now
      (m.emptiedBy s.iu.marks s.ct.heard) (m.cycleEnd s.iu.marks s.ct.heard s.ct.plan c.digest c.plan.length) := by
  simp only [State.cycleEnd, hm]
  rw [if_neg (by simpa using hs)]
  simp [State.trackedEnded]

@[simp] theorem State.trackedEnded_unchanged (s : State) (c : StationConfig) (m' : Image) :
    (s.trackedEnded c m').sc = s.sc ∧ (s.trackedEnded c m').ct = s.ct ∧ (s.trackedEnded c m').ti = s.ti ∧
      (s.trackedEnded c m').cp = (s.ageHalf c).cp ∧ (s.trackedEnded c m').du = (s.ageHalf c).du ∧
      (s.trackedEnded c m').sq = s.sq ∧ (s.trackedEnded c m').rm = s.rm ∧ (s.trackedEnded c m').rc = s.rc ∧
      (s.trackedEnded c m').iu = { s.iu with image := some m', marks := .empty } := by
  simp [State.trackedEnded]

/-- Settles O33. -/
theorem trackedImageTakesItsCycleEnd : Obligations.TrackedImageTakesItsCycleEnd := by
  intro s c m e hc hs hm hstate he m' emptied failed
  have hnotMember : s.sc.state ≠ .member := by rcases hs with hs | hs <;> simp [hs]
  have hend := State.cycleEnd_of_not_member hm hnotMember c e
  have hemptied : m.emptiedBy s.iu.marks s.ct.heard = true ↔ emptied := by simp [Image.emptiedBy, emptied]
  obtain ⟨u, hu⟩ : ∃ u, u = s.trackedEnded c m' := ⟨_, rfl⟩
  obtain ⟨hsc, hct, hti, hcp, hdu, hsq, hrm, hrc, hiu⟩ := s.trackedEnded_unchanged c m'
  rw [← hu] at hsc hct hti hcp hdu hsq hrm hrc hiu
  change s.cycleEnd c e = (s.trackedEnded c m').trackedCycleEnd c e (m.emptiedBy s.iu.marks s.ct.heard) m' at hend
  rw [← hu] at hend
  rw [exec_joinWindowTimerExpiry hc hstate he, hend]
  have hcycle : ∀ v : State, v.sc.state ≠ .member → v.sc.departing = s.sc.departing → v.iu = u.iu → v.ct = u.ct → v.ti = u.ti →
      (v.timerCycleEnd c e).iu = { s.iu with image := some m', marks := .empty } ∧
        (∀ k, s.ct.mark = some k → e < k.instant + c.period * unitsPerMicrosecond →
          (v.timerCycleEnd c e).ct = { s.ct with
            state := .interval, silence := none, window := none,
            nextOpening := some (k.instant + c.period * unitsPerMicrosecond) }) ∧
        (∀ k, s.ct.mark = some k → k.instant + c.period * unitsPerMicrosecond ≤ e →
          (v.timerCycleEnd c e).ct.opensWith c m' s.sc.departing e true) ∧
        (s.ct.mark = none →
          (v.timerCycleEnd c e).ct = { s.ct with state := .interval, silence := none, window := none, nextOpening := none }) ∧
        (v.timerCycleEnd c e).ti = s.ti := by
    intro v hv hvd hvi hvc hvt
    obtain ⟨h1, h2, h3, h4, h5⟩ := State.timerCycleEnd_tracked (s := v) (m' := m') hv (by rw [hvi, hiu]) c e
    rw [hvc, hct] at h3 h4 h5
    rw [hvd] at h4
    exact ⟨by rw [h2, hvi, hiu], h3, h4, h5, by rw [h1, hvt, hti]⟩
  refine ⟨_, rfl, ?_⟩
  by_cases hfailed : failed
  · obtain ⟨hjoining, hwhy⟩ := id hfailed
    have hwhy' : m.emptiedBy s.iu.marks s.ct.heard = true ∨ m'.lists c.id = false := by rwa [hemptied]
    have hjoining' : u.sc.state = .joining := by rw [hsc, hjoining]
    cases hd : s.sc.departing with
    | true =>
      have hfail : u.failAttempt c e = u.enterIdle := State.failAttempt_departing c e (by rw [hsc, hd])
      rw [State.trackedCycleEnd_failed_off e hjoining' hwhy' (.inl (by rw [hfail]; rfl)), hfail]
      refine ⟨hdu, hsq, hrm, hrc, fun h => absurd hfailed h, by simp, by simp, fun _ _ => ⟨rfl, rfl, ?_, rfl⟩, fun _ _ => ⟨rfl, rfl, rfl⟩,
        fun h => h.elim (absurd hfailed) (by simp)⟩
      change u.sc.attempts = _
      rw [hsc]
    | false =>
      have hd' : u.sc.departing = false := by rw [hsc, hd]
      rcases Nat.lt_or_ge s.sc.attempts 7 with hmore | hlast
      · have hfail := State.failAttempt_listens c e hd' (by rwa [hsc])
        obtain ⟨v, hv⟩ : ∃ v, v = u.failAttempt c e := ⟨_, rfl⟩
        have hlisten : v.sc.state = .listen := by rw [hv, hfail]; rfl
        have hvsc : v.sc = { s.sc with
            state := .listen, attempts := s.sc.attempts + 1,
            founding := some (e + (4 + c.id.val) * (c.period * unitsPerMicrosecond)) } := by
          rw [hv, hfail, ← hsc]; rfl
        have hsame : v.du = u.du ∧ v.sq = u.sq ∧ v.rm = u.rm ∧ v.rc = u.rc ∧ v.iu = u.iu ∧ v.ct = u.ct ∧ v.ti = u.ti := by
          rw [hv, hfail]; exact ⟨rfl, rfl, rfl, rfl, rfl, rfl, rfl⟩
        obtain ⟨hvdu, hvsq, hvrm, hvrc, hviu, hvct, hvti⟩ := hsame
        rw [State.trackedCycleEnd_failed e hjoining' hwhy', ← hv, State.receiverOn_eq_true (.inl hlisten)]
        by_cases he' : emptied
        · rw [if_pos (hemptied.2 he'), State.dropTracked_of_listen hlisten]
          exact ⟨hvdu.trans hdu, hvsq.trans hsq, hvrm.trans hrm, hvrc.trans hrc, fun h => absurd hfailed h, fun _ _ _ => hvsc,
            fun _ _ h => absurd h (by omega), by simp, fun _ h => absurd h (by simp; omega),
            fun _ => ⟨fun _ => ⟨rfl, rfl, hvti.trans hti⟩, fun h => absurd he' h⟩⟩
        · rw [if_neg (mt hemptied.1 he'), if_pos rfl]
          refine ⟨by simp [hvdu, hdu], by simp [hvsq, hsq], by simp [hvrm, hrm], by simp [hvrc, hrc], fun h => absurd hfailed h,
            fun _ _ _ => by simpa using hvsc, fun _ _ h => absurd h (by omega), by simp, fun _ h => absurd h (by simp; omega),
            fun _ => ⟨fun h => absurd h he', fun _ => ?_⟩⟩
          have := hcycle v (by simp [hlisten]) (by rw [hvsc]) hviu hvct hvti
          rwa [hd] at this
      · have hfail := State.failAttempt_exhausted c e hd' (by rwa [hsc])
        rw [State.enterFault_eq_of_not_member (by simp [hjoining'])] at hfail
        rw [State.trackedCycleEnd_failed_off e hjoining' hwhy' (.inr (by rw [hfail]; rfl)), hfail]
        refine ⟨hdu, hsq, hrm, hrc, fun h => absurd hfailed h, fun _ _ h => absurd h (by omega),
          fun _ _ _ => ⟨rfl, rfl, ?_, State.flag_raise_self _ _⟩, by simp, fun _ _ => ⟨rfl, rfl, rfl⟩,
          fun h => h.elim (absurd hfailed) (fun h => absurd h.2 (by omega))⟩
        change u.sc.attempts + 1 = _
        rw [hsc]
  · by_cases he' : emptied
    · have hlisten : s.sc.state = .listen := hs.resolve_right fun h => hfailed ⟨h, .inl he'⟩
      have hlisten' : u.sc.state = .listen := by rw [hsc, hlisten]
      rw [State.trackedCycleEnd_kept_emptied e hlisten' (hemptied.2 he'), State.dropTracked_of_listen hlisten']
      exact ⟨hdu, hsq, hrm, hrc, fun _ => ⟨hsc, hcp⟩, fun h => absurd h hfailed, fun h => absurd h hfailed, fun h => absurd h hfailed,
        fun h => absurd h hfailed, fun _ => ⟨fun _ => ⟨rfl, rfl, hti⟩, fun h => absurd he' h⟩⟩
    · have hempty : m.emptiedBy s.iu.marks s.ct.heard = false := by rw [← Bool.not_eq_true, hemptied]; exact he'
      rw [State.trackedCycleEnd_kept e (by rwa [hsc]) hempty (by rw [hsc]; exact fun h => hfailed ⟨h.1, .inr h.2⟩)]
      exact ⟨by simp [hdu], by simp [hsq], by simp [hrm], by simp [hrc], fun _ => by simp [hsc, hcp], fun h => absurd h hfailed,
        fun h => absurd h hfailed, fun h => absurd h hfailed, fun h => absurd h hfailed,
        fun _ => ⟨fun h => absurd h he', fun _ => hcycle u (by rwa [hsc]) (by rw [hsc]) rfl rfl rfl⟩⟩

end Sys2Proof.Machine
end

section
/-! The start of a frame (R21, R22, R25, R29, R64), and how an own frame begins, is lost, mismatches or is abandoned (R43 to R50, R62). -/

open Sys2Proof

namespace Sys2Proof.Machine

/-! ### FRAME_START -/

/-- R22: a provisional mark is fixed at the first frame start. -/
theorem CycleTimer.retimed_of_provisional {t : CycleTimer} {k : Mark} (hk : t.mark = some k) (hp : k.provisional = true)
    (c : StationConfig) (now : Instant) :
    t.retimed c now = { t with
      mark := some { instant := now, provisional := false }, nextOpening := some (now + c.period * unitsPerMicrosecond) } := by
  simp only [CycleTimer.retimed, hk, hp, if_true]
  rfl

theorem CycleTimer.retimed_of_fixed {t : CycleTimer} (h : ∀ k, t.mark = some k → k.provisional = false) (c : StationConfig)
    (now : Instant) : t.retimed c now = t := by
  unfold CycleTimer.retimed
  split
  next k hk => rw [h k hk]; rfl
  next => rfl

/-- R22: the mark moves, and the next opening with it; nothing else does. -/
theorem CycleTimer.retimed_spec (t : CycleTimer) (c : StationConfig) (now : Instant) :
    (t.retimed c now).pointer = t.pointer ∧ (t.retimed c now).heard = t.heard ∧ (t.retimed c now).plan = t.plan ∧
      (t.retimed c now).nextPhase = t.nextPhase ∧ (t.retimed c now).state = t.state ∧
      (∀ k, t.mark = some k → k.provisional = true → (t.retimed c now).mark = some { instant := now, provisional := false } ∧
        (t.retimed c now).nextOpening = some (now + c.period * unitsPerMicrosecond)) ∧
      (∀ k, t.mark = some k → k.provisional = false → (t.retimed c now).mark = t.mark ∧
        (t.retimed c now).nextOpening = t.nextOpening) ∧
      (t.mark = none → (t.retimed c now).mark = none ∧ (t.retimed c now).nextOpening = t.nextOpening) := by
  by_cases hp : ∃ k, t.mark = some k ∧ k.provisional = true
  · obtain ⟨k, hk, hp⟩ := hp
    rw [CycleTimer.retimed_of_provisional hk hp]
    refine ⟨rfl, rfl, rfl, rfl, rfl, fun _ _ _ => ⟨rfl, rfl⟩, fun k' hk' hp' => ?_, fun h => ?_⟩
    · rw [hk] at hk'; cases hk'
      rw [hp] at hp'; cases hp'
    · rw [hk] at h; cases h
  · have hfixed : ∀ k, t.mark = some k → k.provisional = false := fun k hk => by
      by_contra h
      exact hp ⟨k, hk, by simpa using h⟩
    rw [CycleTimer.retimed_of_fixed hfixed]
    refine ⟨rfl, rfl, rfl, rfl, rfl, fun k hk h => ?_, fun _ _ _ => ⟨rfl, rfl⟩, fun h => ⟨h, rfl⟩⟩
    rw [hfixed k hk] at h; cases h

/-- The station as the receiver enters a frame, before its CT follows (R51, R64). -/
def State.entersFrame (c : StationConfig) (now : Instant) (s : State) : State :=
  (s.setTi { s.ti with receiving := some (s.ct.state == .window) }).restartFounding c now

theorem State.entersFrame_spec (s : State) (c : StationConfig) (now : Instant) :
    (s.entersFrame c now).ti = { s.ti with receiving := some (s.ct.state == .window) } ∧ (s.entersFrame c now).ct = s.ct ∧
      (s.entersFrame c now).iu = s.iu ∧ (s.entersFrame c now).du = s.du ∧ (s.entersFrame c now).sq = s.sq ∧
      (s.entersFrame c now).cp = s.cp ∧ (s.entersFrame c now).rt = s.rt ∧ (s.entersFrame c now).cb = s.cb ∧
      (s.entersFrame c now).sc.state = s.sc.state ∧ (s.entersFrame c now).sc.departing = s.sc.departing ∧
      (s.sc.state = .listen → (s.entersFrame c now).sc.founding = some (now + (4 + c.id.val) * (c.period * unitsPerMicrosecond))) ∧
      (s.sc.state ≠ .listen → (s.entersFrame c now).sc = s.sc) := by
  unfold State.entersFrame State.restartFounding
  split
  next h => exact ⟨rfl, rfl, rfl, rfl, rfl, rfl, rfl, rfl, rfl, rfl, fun _ => rfl, fun hnot => absurd h hnot⟩
  next h => exact ⟨rfl, rfl, rfl, rfl, rfl, rfl, rfl, rfl, rfl, rfl, fun hl => absurd hl h, fun _ => rfl⟩

section FrameStart

variable {s : State} {c : StationConfig} (hc : s.cfg = some c) (hon : s.receiverOn = true) (hr : s.ti.receiving = none)
include hc hon hr

theorem exec_frameStart (now : Instant) :
    exec (.frameStart now) s = .next (match s.ct.state with
      | .interval => (s.entersFrame c now).openCycle c now true
      | .slots => (s.entersFrame c now).setCt { s.ct.retimed c now with silence := none }
      | .window => (s.entersFrame c now).setCt { s.ct.retimed c now with window := none }
      | .stopped | .untimed => s.entersFrame c now) := by
  have hct := (s.entersFrame_spec c now).2.1
  simp only [exec, execFrameStart, State.configured_some hc]
  rw [if_pos ⟨hon, by simp [hr]⟩]
  change Host.Outcome.next (match (s.entersFrame c now).ct.state with
      | .interval => (s.entersFrame c now).openCycle c now true
      | .slots => (s.entersFrame c now).setCt { (s.entersFrame c now).ct.retimed c now with silence := none }
      | .window => (s.entersFrame c now).setCt { (s.entersFrame c now).ct.retimed c now with window := none }
      | .stopped | .untimed => s.entersFrame c now) = _
  rw [hct]

end FrameStart

@[simp] theorem State.assembleBeat_receiving (s : State) (c : StationConfig) (now : Instant) :
    (s.assembleBeat c now).ti.receiving = s.ti.receiving := by
  unfold State.assembleBeat
  split
  · dsimp only
    split <;> rfl
  · rfl

@[simp] theorem State.slotBegins_receiving (s : State) (c : StationConfig) (now : Instant) :
    (s.slotBegins c now).ti.receiving = s.ti.receiving := by
  by_cases h : s.sc.state = .member ∧ s.ct.position = some s.ct.pointer
  · rw [State.slotBegins_own h, State.assembleBeat_receiving]; rfl
  · rw [State.slotBegins_other h]; rfl

@[simp] theorem State.openCycle_receiving (s : State) (c : StationConfig) (now : Instant) (byFrame : Bool) :
    (s.openCycle c now byFrame).ti.receiving = s.ti.receiving := by
  unfold State.openCycle
  split
  · rw [State.slotBegins_receiving]; rfl
  · rfl

/-- Settles O34. -/
theorem frameStartRetimesTheCycle : Obligations.FrameStartRetimesTheCycle := by
  intro s c now hc hon hr
  obtain ⟨hti, hct, hiu, hdu, hsq, hcp, hrt, hcb, hstate, hdep, hlisten, hother⟩ := s.entersFrame_spec c now
  obtain ⟨hpointer, hheard, hplan, hphase, hsame, hprovisional, hfixed, hunmarked⟩ := s.ct.retimed_spec c now
  have hreceiving : (s.entersFrame c now).ti.receiving = some (s.ct.state == .window) := by rw [hti]
  have htx : (s.entersFrame c now).ti.tx = s.ti.tx := by rw [hti]
  rw [exec_frameStart hc hon hr]
  refine ⟨_, rfl, ?_⟩
  cases hs : s.ct.state with
  | slots =>
    rw [hs] at hsame hreceiving
    exact ⟨hreceiving, hlisten, hother, fun _ => ⟨hsame, hpointer, hheard, hplan, hphase, fun _ => rfl, nofun, hprovisional, hfixed,
      hunmarked, htx, hrt, hcb⟩, nofun, nofun, hiu, hdu, hsq, hcp⟩
  | window =>
    rw [hs] at hsame hreceiving
    exact ⟨hreceiving, hlisten, hother, fun _ => ⟨hsame, hpointer, hheard, hplan, hphase, nofun, fun _ => rfl, hprovisional, hfixed,
      hunmarked, htx, hrt, hcb⟩, nofun, nofun, hiu, hdu, hsq, hcp⟩
  | interval =>
    rw [hs] at hreceiving
    refine ⟨by simpa using hreceiving, by simpa using hlisten, by simpa using hother, by simp, fun _ himage => ?_, nofun,
      by simp [hiu], by simp [hdu], by simp [hsq], by simp [hcp]⟩
    obtain ⟨m, hm⟩ := Option.isSome_iff_exists.1 himage
    have hm' : (s.entersFrame c now).iu.image = some m := by rw [hiu, hm]
    have hopens := State.openCycle_opensWith hm' c now true
    rw [hdep] at hopens
    obtain ⟨hslots, hzero, hempty, hseen, hmark, hnext, -⟩ := id hopens
    refine ⟨hslots, hzero, hempty, hseen, ?_, hmark, hnext, fun m2 hm2 => ?_, fun m2 hmember hm2 hp ht => ?_⟩
    · rw [State.openCycle_silence hm', hreceiving]; rfl
    · rw [hm] at hm2; cases hm2
      exact hopens
    · rw [hm] at hm2; cases hm2
      exact (State.assembles_congr hrt hcb c now _).1
        (State.openCycle_assembles (by rw [hstate, hmember]) hm' hp (.inl (by rw [htx, ht])) now true)
  | untimed =>
    rw [hs] at hreceiving
    exact ⟨hreceiving, hlisten, hother, by simp, nofun, fun _ => hct, hiu, hdu, hsq, hcp⟩
  | stopped =>
    rw [hs] at hreceiving
    exact ⟨hreceiving, hlisten, hother, by simp, nofun, nofun, hiu, hdu, hsq, hcp⟩

end Sys2Proof.Machine
end

section
/-! How an own frame begins, is lost, mismatches, is aborted or is abandoned (R28, R30, R43 to R50, R62, R69, R81, R85). -/

open Sys2Proof

namespace Sys2Proof.Machine

theorem exec_frameBegin {s : State} {c : StationConfig} {guard : Instant} (hc : s.cfg = some c) (ht : s.ti.tx = .armed)
    (hg : s.ti.startGuard = some guard) (hr : s.ti.receiving = none) {now : Instant} (hle : now ≤ guard) :
    exec (.frameBegin now) s = .next ((s.setTi { s.ti with tx := .arbitrating, startGuard := none }).hearSelf c) := by
  simp only [exec, execFrameBegin, State.configured_some hc, ht, hg]
  rw [if_pos ⟨by simp [hr], hle⟩]

section OwnFrame

variable {s : State}

theorem exec_startGuardExpiry (ht : s.ti.tx = .armed) : exec .startGuardExpiry s = .next s.giveUpFrame :=
  congrArg Host.Outcome.next (if_pos ht)

theorem exec_abortMarkEnd_clash (ht : s.ti.tx = .aborting) (hclash : s.ti.clashAfterAbort = true) :
    exec .abortMarkEnd s = .next (s.giveUpFrame.enterFault .idClash) :=
  congrArg Host.Outcome.next ((if_pos ht).trans (if_pos hclash))

theorem exec_abortMarkEnd (ht : s.ti.tx = .aborting) (hclash : s.ti.clashAfterAbort = false) :
    exec .abortMarkEnd s = .next s.giveUpFrame.takeDeferredLeave :=
  congrArg Host.Outcome.next ((if_pos ht).trans (if_neg (by simp [hclash])))

theorem exec_arbitrationLoss (ht : s.ti.tx = .arbitrating) :
    exec .arbitrationLoss s = .next (if s.holdsBeat then s.giveUpFrame.goDoubtful else s.giveUpFrame) :=
  congrArg Host.Outcome.next (if_pos ht)

/-- The trunk interface after a readback mismatch (R45, R46). -/
def TrunkInterface.mismatched (recessive : Bool) (t : TrunkInterface) : TrunkInterface :=
  { t with tx := .aborting, clashSuspect := t.clashSuspect || recessive, clashAfterAbort := t.clashSuspect && recessive }

theorem exec_readbackMismatch (ht : s.ti.tx = .arbitrating ∨ s.ti.tx = .sending) (recessive : Bool) :
    exec (.readbackMismatch recessive) s =
      .next (if s.holdsBeat then (s.setTi (s.ti.mismatched recessive)).goDoubtful else s.setTi (s.ti.mismatched recessive)) :=
  congrArg Host.Outcome.next (if_pos (by rcases ht with ht | ht <;> simp [State.frameInFlight, ht]))

theorem State.holdsBeat_of_join (h : ∃ digest, s.ti.frame = some (.join digest)) : s.holdsBeat = false := by
  obtain ⟨digest, h⟩ := h
  simp [State.holdsBeat, h, OwnFrame.isBeat]

theorem State.holdsBeat_of_beat (h : ∃ d e y p i k m, s.ti.frame = some (.beat d e y p i k m)) : s.holdsBeat = true := by
  obtain ⟨d, e, y, p, i, k, m, h⟩ := h
  simp [State.holdsBeat, h, OwnFrame.isBeat]

theorem State.goDoubtful_of_member (hs : s.sc.state = .member) : s.goDoubtful = s.setIu { s.iu with certainty := some .doubtful } :=
  if_pos hs

theorem State.goDoubtful_of_not_member (hs : s.sc.state ≠ .member) : s.goDoubtful = s := if_neg hs

end OwnFrame

/-- Settles O35. -/
theorem frameBeginsOrFails : Obligations.FrameBeginsOrFails := by
  refine ⟨fun s c now guard hc ht hg hr hle => ?_, fun s recessive => ?_⟩
  · rw [exec_frameBegin hc ht hg hr hle]
    exact ⟨fun hs => congrArg Host.Outcome.next (if_pos hs), fun hs => congrArg Host.Outcome.next (if_neg hs)⟩
  · intro back freed aborting
    refine ⟨exec_startGuardExpiry, fun ht hclash hleave => ?_, fun hjoin => ⟨fun ht => ?_, fun ht => ?_⟩,
      fun hs hbeat => ⟨fun ht => ?_, fun ht => ?_, fun ht hclash => ?_⟩, fun hs ht hclash => ?_, fun hs ht hclash hleave => ?_⟩
    · rw [exec_abortMarkEnd ht hclash, State.takeDeferredLeave_of_none (s := s.giveUpFrame) hleave]
      rfl
    · rw [exec_arbitrationLoss ht, State.holdsBeat_of_join hjoin]
      rfl
    · rw [exec_readbackMismatch ht, State.holdsBeat_of_join hjoin]
      rfl
    · rw [exec_arbitrationLoss ht, State.holdsBeat_of_beat hbeat, if_pos rfl, State.goDoubtful_of_member (s := s.giveUpFrame) hs]
      rfl
    · rw [exec_readbackMismatch ht, State.holdsBeat_of_beat hbeat, if_pos rfl,
        State.goDoubtful_of_member (s := s.setTi (s.ti.mismatched recessive)) hs]
      rfl
    · refine ⟨_, exec_abortMarkEnd_clash ht hclash, ?_⟩
      have hfault : s.giveUpFrame.enterFault .idClash = (s.giveUpFrame.leaveMember.offTrunk.setSc
          { s.giveUpFrame.leaveMember.sc with
            state := .fault, faultReason := some .idClash, holdoff := none, founding := none, deferredLeave := false }).raise .fault := by
        simp only [State.enterFault, State.giveUpFrame_unchanged, hs, if_true]
      rw [hfault]
      exact ⟨rfl, rfl, rfl, rfl, rfl, ItemBuffer.discarded_isEmpty s.cb, rfl, rfl, State.flag_raise_self _ _, rfl⟩
    · refine ⟨_, exec_abortMarkEnd_clash ht hclash, ?_⟩
      rw [State.enterFault_eq_of_not_member (s := s.giveUpFrame) hs]
      exact ⟨rfl, rfl, rfl, rfl, rfl, rfl, rfl, State.flag_raise_self _ _, rfl, rfl, rfl, rfl, rfl⟩
    · refine ⟨_, exec_abortMarkEnd ht hclash, ?_⟩
      rw [State.takeDeferredLeave_listen (s := s.giveUpFrame) hs hleave nofun]
      exact ⟨rfl, rfl, rfl, rfl, rfl, rfl, rfl, rfl, rfl, rfl⟩

end Sys2Proof.Machine
end

section
/-! Frames on the line: no level stays for ten bit times, and the bytes put on it are read back (R39, R40, R41). -/

open Sys2Proof

namespace Sys2Proof.Machine

/-! ### Runs of one level (R40) -/

theorem length_lineOf (bytes : List Byte) : (lineOf bytes).length = 1 + 9 * bytes.length := by
  have hlen : (bytes.flatMap (fun b => bitsOf b ++ [!b.getLsbD 0])).length = 9 * bytes.length := by
    induction bytes with
    | nil => rfl
    | cons b rest ih => rw [List.flatMap_cons, List.length_append, ih]; simp [bitsOf]; omega
  rw [lineOf, List.length_cons, hlen, Nat.add_comm]

/-- The group mark of group `k` is the complement of the bit before it. -/
theorem lineOf_mark {bytes : List Byte} {k : Nat} (h : k < bytes.length) :
    ∃ x, (lineOf bytes)[9 * k + 8]? = some x ∧ (lineOf bytes)[9 * k + 9]? = some (!x) := by
  have hgroups : ∃ x, (bytes.flatMap (fun b => bitsOf b ++ [!b.getLsbD 0]))[9 * k + 7]? = some x ∧
      (bytes.flatMap (fun b => bitsOf b ++ [!b.getLsbD 0]))[9 * k + 8]? = some (!x) := by
    induction bytes generalizing k with
    | nil => simp at h
    | cons b rest ih =>
      rw [List.flatMap_cons]
      cases k with
      | zero => exact ⟨b.getLsbD 0, by simp [bitsOf], by simp [bitsOf]⟩
      | succ k =>
        obtain ⟨x, hx, hmark⟩ := ih (k := k) (by simpa using h)
        refine ⟨x, ?_, ?_⟩
        · rw [List.getElem?_append_right (by simp [bitsOf]; omega), ← hx]
          congr 1
        · rw [List.getElem?_append_right (by simp [bitsOf]; omega), ← hmark]
          congr 1
  obtain ⟨x, hx, hmark⟩ := hgroups
  exact ⟨x, by rw [lineOf, List.getElem?_cons_succ]; exact hx, by rw [lineOf, List.getElem?_cons_succ]; exact hmark⟩

/-- R40: among ten levels in a row stand a bit and its group mark. -/
theorem run_length_le {bytes : List Byte} {before run after : List Bool} {level : Bool} (hline : lineOf bytes = before ++ run ++ after)
    (hrun : ∀ x ∈ run, x = level) : run.length ≤ 9 := by
  by_contra hlong
  have hlen := congrArg List.length hline
  rw [length_lineOf, List.length_append, List.length_append] at hlen
  have hlevel : ∀ j, j < run.length → (lineOf bytes)[before.length + j]? = some level := fun j hj => by
    rw [hline, List.append_assoc, List.getElem?_append_right (by omega), Nat.add_sub_cancel_left, List.getElem?_append_left hj,
      List.getElem?_eq_getElem hj, hrun _ (List.getElem_mem hj)]
  obtain ⟨x, hx, hmark⟩ := lineOf_mark (bytes := bytes) (k := (before.length + (8 - before.length % 9)) / 9) (by omega)
  have hat : 9 * ((before.length + (8 - before.length % 9)) / 9) + 8 = before.length + (8 - before.length % 9) := by omega
  rw [hat, hlevel _ (by omega)] at hx
  have hat' : 9 * ((before.length + (8 - before.length % 9)) / 9) + 9 = before.length + (8 - before.length % 9 + 1) := by omega
  rw [hat', hlevel _ (by omega)] at hmark
  obtain rfl := Option.some.inj hx
  cases level <;> simp at hmark

/-- Fewer than ten levels are no ten in a row, and the last of them is the level that goes on. -/
theorem tenInARow_append (l : List Bool) (level : Bool) (run : Nat) (rest : List Bool) (h : run + l.length ≤ 9) :
    ∃ run', run' ≤ 9 ∧ tenInARow level run (l ++ rest) = tenInARow (l.getLastD level) run' rest := by
  induction l generalizing level run with
  | nil => exact ⟨run, by simpa using h, rfl⟩
  | cons x l ih =>
    rw [List.length_cons] at h
    have hshort : ¬ 10 ≤ run := by omega
    rw [List.cons_append, tenInARow, if_neg hshort, List.getLastD_cons]
    split
    next hx =>
      subst hx
      exact ih x (run + 1) (by omega)
    next => exact ih x 1 (by omega)

theorem tenInARow_mark {level mark : Bool} {run : Nat} (hrun : run ≤ 9) (hmark : mark ≠ level) (rest : List Bool) :
    tenInARow level run (mark :: rest) = tenInARow mark 1 rest := by
  rw [tenInARow, if_neg (by omega), if_neg hmark]

theorem tenInARow_groups (bytes : List Byte) (level : Bool) :
    tenInARow level 1 (bytes.flatMap (fun b => bitsOf b ++ [!b.getLsbD 0])) = false := by
  induction bytes generalizing level with
  | nil => rfl
  | cons b rest ih =>
    rw [List.flatMap_cons, List.append_assoc]
    obtain ⟨run', hrun, heq⟩ := tenInARow_append (bitsOf b) level 1
      ([!b.getLsbD 0] ++ rest.flatMap (fun b => bitsOf b ++ [!b.getLsbD 0])) (by simp [bitsOf])
    rw [heq, List.singleton_append, tenInARow_mark hrun (by simp [bitsOf])]
    exact ih _

/-! ### Bytes from the line -/

theorem byteOf_bits (b : Byte) :
    byteOf (b.getLsbD 7) (b.getLsbD 6) (b.getLsbD 5) (b.getLsbD 4) (b.getLsbD 3) (b.getLsbD 2) (b.getLsbD 1) (b.getLsbD 0) = b := by
  decide +revert

theorem groupsOf_groups (bytes : List Byte) : groupsOf (bytes.flatMap (fun b => bitsOf b ++ [!b.getLsbD 0])) = some bytes := by
  induction bytes with
  | nil => rfl
  | cons b rest ih =>
    rw [List.flatMap_cons]
    generalize rest.flatMap (fun b => bitsOf b ++ [!b.getLsbD 0]) = tail at ih ⊢
    simp only [bitsOf, List.cons_append, List.nil_append, groupsOf, ih, byteOf_bits]

theorem receiveLine_lineOf (bytes : List Byte) : receiveLine (lineOf bytes) = receiveBytes bytes := by
  simp only [lineOf, receiveLine, tenInARow_groups, groupsOf_groups, Bool.false_eq_true, if_false]

/-- R41: the CRC of a frame read whole matches. -/
theorem receiveBytes_withCrc {content : List Byte} {frame : RxFrame}
    (h : ∀ extra, takeFrame (content ++ extra) = some (frame, extra)) : receiveBytes (withCrc content) = .whole frame true := by
  simp [receiveBytes, withCrc, h, bytesOf16, extract_bytes_append]

/-! ### Fields of two nibbles -/

theorem toNat_append_eq {n m : Nat} (x : BitVec n) (y : BitVec m) : (x ++ y).toNat = x.toNat * 2 ^ m + y.toNat := by
  rw [BitVec.toNat_append, Nat.shiftLeft_eq, Nat.mul_comm, ← Nat.two_pow_add_eq_or_of_lt y.isLt]

theorem toNat_extract_eq {n : Nat} (x : BitVec n) (start len : Nat) : (x.extractLsb' start len).toNat = x.toNat / 2 ^ start % 2 ^ len := by
  rw [BitVec.extractLsb'_toNat, Nat.shiftRight_eq_div_pow]

theorem highNibble_twoNibbles (i : Fin 16) (low : Nat) : highNibble (twoNibbles i.val low) = i := by
  apply Fin.ext
  change ((twoNibbles i.val low).extractLsb' 4 4).toNat = i.val
  rw [toNat_extract_twoNibbles]
  omega

theorem lowNibble_twoNibbles {low : Nat} (h : low < 16) (high : Nat) : (lowNibble (twoNibbles high low)).val = low := by
  change ((twoNibbles high low).extractLsb' 0 4).toNat = low
  rw [toNat_extract_twoNibbles]
  omega

theorem bytesOf16_eq (w : Word16) : bytesOf16 w = [w.extractLsb' 8 8, w.extractLsb' 0 8] := rfl

theorem extract_digest_append (w : Digest) :
    ((w.extractLsb' 24 8 ++ w.extractLsb' 16 8 : Word16) ++ (w.extractLsb' 8 8 ++ w.extractLsb' 0 8 : Word16) : BitVec (16 + 16)) = w := by
  apply BitVec.eq_of_toNat_eq
  have := w.isLt
  simp only [toNat_append_eq, toNat_extract_eq]
  omega

/-! ### Items -/

theorem causeOfByteA_requestByteA (cause : Cause) (total : Nat) : causeOfByteA (requestByteA cause total) = some cause := by
  rw [causeOfByteA, requestByteA, toNat_extract_twoNibbles]
  have hcode : (cause.code * 4 % 16 * 16 + total % 16) / 2 ^ 6 % 2 ^ 2 = cause.code := by
    cases cause <;> simp only [Cause.code] <;> omega
  rw [hcode]
  cases cause <;> rfl

theorem totalOfByteA_requestByteA (cause : Cause) {total : Nat} (h : total < 16) : totalOfByteA (requestByteA cause total) = total :=
  lowNibble_twoNibbles h _

/-- The repeat total of an item fits its four bits. -/
def Item.fits : Item → Prop
  | .priorityReq _ total _ => total < 16
  | .haltAck | .resumeReq | .haltReq | .leave => True

theorem takeItem_encodeItem {i : Item} (h : i.fits) (rest : List Byte) : takeItem (encodeItem i ++ rest) = some (some i, rest) := by
  cases i with
  | priorityReq cause total serial =>
    simp [encodeItem, takeItem, causeOfByteA_requestByteA, totalOfByteA_requestByteA cause h]
  | haltAck | resumeReq | haltReq | leave => rfl

theorem takeItems_encode {items : List Item} (h : ∀ i ∈ items, i.fits) (rest : List Byte) :
    takeItems items.length (items.flatMap encodeItem ++ rest) = some (items.map some, rest) := by
  induction items with
  | nil => rfl
  | cons i items ih =>
    obtain ⟨hi, hitems⟩ := List.forall_mem_cons.1 h
    simp [takeItems, List.flatMap_cons, List.append_assoc, takeItem_encodeItem hi, ih hitems]

/-! ### Records -/

theorem recordByte0_bits (r : Record) :
    (recordByte0 r).getLsbD 7 = (match r.kind with | .regular _ => false | .priority _ _ _ _ => true) ∧
      ((recordByte0 r).extractLsb' 4 3).toFin = r.channel ∧ (recordByte0 r).getLsbD 3 = r.low ∧ (recordByte0 r).getLsbD 2 = r.high ∧
      (recordByte0 r).getLsbD 1 = r.clamped ∧ (recordByte0 r).getLsbD 0 = r.gap := by
  obtain ⟨kind, channel, cycle, value, low, high, clamped, gap⟩ := r
  have hbits : ∀ (k : Bool) (channel : Channel) (low high clamped gap : Bool),
      let b : Byte := BitVec.ofBool k ++ BitVec.ofNat 3 channel.val ++
        (BitVec.ofBool low ++ BitVec.ofBool high ++ BitVec.ofBool clamped ++ BitVec.ofBool gap : BitVec 4)
      b.getLsbD 7 = k ∧ (b.extractLsb' 4 3).toFin = channel ∧ b.getLsbD 3 = low ∧ b.getLsbD 2 = high ∧ b.getLsbD 1 = clamped ∧
        b.getLsbD 0 = gap := by decide
  cases kind with
  | regular entry => exact hbits false channel low high clamped gap
  | priority q n i e => exact hbits true channel low high clamped gap

theorem recordWord_value (top : Fin 16) (value : Sample) :
    (recordWord top value).extractLsb' 0 12 = value := by
  apply BitVec.eq_of_toNat_eq
  have := value.isLt
  rw [toNat_extract_eq, recordWord, toNat_append_eq]
  omega

theorem recordWord_top (top : Fin 16) (value : Sample) : highNibble ((recordWord top value).extractLsb' 8 8) = top := by
  apply Fin.ext
  change (((recordWord top value).extractLsb' 8 8).extractLsb' 4 4).toNat = top.val
  have := value.isLt
  have := top.isLt
  rw [toNat_extract_eq, toNat_extract_eq, recordWord, toNat_append_eq, BitVec.toNat_ofFin]
  omega

theorem recordByte6_bits (i : Fin 8) (e : Fin 4) :
    ((recordByte6 i e).extractLsb' 4 3).toFin = i ∧ ((recordByte6 i e).extractLsb' 0 2).toFin = e := by
  revert i e
  decide

theorem takeRecord_encodeRecord (r : Record) (rest : List Byte) : takeRecord (encodeRecord r ++ rest) = some (r, rest) := by
  obtain ⟨hkind, hchannel, hlow, hhigh, hclamped, hgap⟩ := recordByte0_bits r
  cases hr : r.kind with
  | regular entry =>
    rw [hr] at hkind
    simp only [encodeRecord, hr, bytesOf16_eq, List.cons_append, List.nil_append, takeRecord, hkind, Bool.false_eq_true, if_false,
      recordFrom, hchannel, hlow, hhigh, hclamped, hgap, recordWord_top, extract_bytes_append, recordWord_value]
    rw [← hr]
  | priority q n i e =>
    rw [hr] at hkind
    obtain ⟨hi, he⟩ := recordByte6_bits i e
    simp only [encodeRecord, hr, bytesOf16_eq, List.cons_append, List.nil_append, takeRecord, hkind, if_true,
      recordFrom, hchannel, hlow, hhigh, hclamped, hgap, recordWord_top, extract_bytes_append, recordWord_value, hi, he]
    rw [← hr]

theorem takeRecords_encode (records : List Record) (rest : List Byte) :
    takeRecords records.length (records.flatMap encodeRecord ++ rest) = some (records, rest) := by
  induction records with
  | nil => rfl
  | cons r records ih =>
    simp [takeRecords, List.flatMap_cons, List.append_assoc, takeRecord_encodeRecord, ih]

/-! ### Summaries -/

theorem entryFrom_encodeEntry {e : RosterEntry} (h : e.missed < 4) : entryFrom (encodeEntry e) = e := by
  obtain ⟨id, missed, admitted⟩ := e
  have hmissed : ((twoNibbles id.val (missed * 4 + if admitted then 2 else 0)).extractLsb' 2 2).toNat = missed := by
    rw [toNat_extract_twoNibbles]
    dsimp only at h
    split <;> omega
  have hadmitted : (twoNibbles id.val (missed * 4 + if admitted then 2 else 0)).getLsbD 1 = admitted := by
    rw [getLsbD_twoNibbles]
    cases admitted <;> simp <;> omega
  rw [encodeEntry, entryFrom, highNibble_twoNibbles, hmissed, hadmitted]

theorem map_entryFrom {roster : List RosterEntry} (h : ∀ e ∈ roster, e.missed < 4) : (roster.map encodeEntry).map entryFrom = roster := by
  rw [List.map_map]
  exact (List.map_congr_left fun e he => entryFrom_encodeEntry (h e he)).trans (List.map_id roster)

theorem requestFrom_encode {r : Request} (h : r.total < 16) (low : Nat) :
    requestFrom (twoNibbles r.requester.val low) (requestByteA r.cause r.total) r.serial = some r := by
  simp [requestFrom, causeOfByteA_requestByteA, totalOfByteA_requestByteA r.cause h, highNibble_twoNibbles]

theorem takeQueue_encode {queue : List Request} (h : ∀ r ∈ queue, r.total < 16) (rest : List Byte) :
    takeQueue queue.length (queue.flatMap encodeRequest ++ rest) = some (queue.map some, rest) := by
  induction queue with
  | nil => rfl
  | cons r queue ih =>
    obtain ⟨hr, hqueue⟩ := List.forall_mem_cons.1 h
    simp [takeQueue, List.flatMap_cons, encodeRequest, requestFrom_encode hr, ih hqueue]

theorem allSome_map {α : Type} (l : List α) : allSome (l.map some) = some l := by
  induction l with
  | nil => rfl
  | cons x l ih => simp [allSome, ih]

/-- The bytes of the active capture, none when there is none. -/
def captureBytes : Option Capture → List Byte
  | some k => encodeCapture k
  | none => []

/-- The bytes of the halt gather, none when there is none. -/
def gatherBytes : Option Gather → List Byte
  | some g => encodeGather g
  | none => []

theorem encodeSummary_eq (m : Image) : encodeSummary m =
    bytesOf16 m.epoch ++ bytesOf16 m.cycle ++ [summaryFlags m, BitVec.ofNat 8 m.cursor] ++ bytesOf32 m.digest ++
      (BitVec.ofNat 8 m.roster.length :: m.roster.map encodeEntry) ++
      (BitVec.ofNat 8 m.queue.length :: m.queue.flatMap encodeRequest) ++ captureBytes m.capture ++ gatherBytes m.gather := by
  rw [encodeSummary]
  cases m.capture <;> cases m.gather <;> rfl

theorem takeCapture_encode {capture : Option Capture} (h : ∀ k, capture = some k → k.request.total < 16 ∧ k.next < 8) (rest : List Byte) :
    takeCapture capture.isSome (captureBytes capture ++ rest) = some (capture.map some, rest) := by
  cases capture with
  | none => rfl
  | some k =>
    obtain ⟨htotal, hnext⟩ := h k rfl
    have hindex : ((twoNibbles k.request.requester.val k.next).extractLsb' 0 3).toNat = k.next := by
      rw [toNat_extract_twoNibbles]; omega
    simp [takeCapture, captureBytes, encodeCapture, requestFrom_encode htotal, hindex]

theorem captureField_map (capture : Option Capture) : captureField (capture.map some) = some capture := by
  cases capture <;> rfl

theorem takeGather_encode {gather : Option Gather} (h : ∀ g, gather = some g → g.elapsed < 256) (rest : List Byte) :
    takeGather gather.isSome (gatherBytes gather ++ rest) = some (gather, rest) := by
  cases gather with
  | none => rfl
  | some g =>
    have helapsed : g.elapsed % 256 = g.elapsed := Nat.mod_eq_of_lt (h g rfl)
    simp [takeGather, gatherBytes, encodeGather, bytesOf16, extract_bytes_append, helapsed]

theorem summaryFlags_bits (m : Image) : (summaryFlags m).getLsbD 7 = decide (m.run = .halted) ∧
    (summaryFlags m).getLsbD 6 = m.capture.isSome ∧ (summaryFlags m).getLsbD 5 = m.gather.isSome := by
  have hbits : ∀ a b c : Bool, ((BitVec.ofBool a ++ BitVec.ofBool b ++ BitVec.ofBool c : BitVec 3) ++ 0#5 : Byte).getLsbD 7 = a ∧
      ((BitVec.ofBool a ++ BitVec.ofBool b ++ BitVec.ofBool c : BitVec 3) ++ 0#5 : Byte).getLsbD 6 = b ∧
      ((BitVec.ofBool a ++ BitVec.ofBool b ++ BitVec.ofBool c : BitVec 3) ++ 0#5 : Byte).getLsbD 5 = c := by decide
  exact hbits _ _ _

/-- Every field of a summary fits its place in the frame (12.1). -/
def Image.fits (m : Image) : Prop :=
  m.roster.length < 256 ∧ m.queue.length < 256 ∧ m.cursor < 256 ∧ (∀ e ∈ m.roster, e.missed < 4) ∧ (∀ r ∈ m.queue, r.total < 16) ∧
    (∀ k, m.capture = some k → k.request.total < 16 ∧ k.next < 8) ∧ ∀ g, m.gather = some g → g.elapsed < 256

theorem takeBytes_append (l rest : List Byte) : takeBytes l.length (l ++ rest) = some (l, rest) := by
  simp [takeBytes]

theorem takeSummary_encodeSummary {m : Image} (h : m.fits) (rest : List Byte) :
    takeSummary (encodeSummary m ++ rest) = some (some m, rest) := by
  obtain ⟨hroster, hqueue, hcursor, hmissed, htotals, hcapture, hgather⟩ := h
  obtain ⟨hrun, hhasCapture, hhasGather⟩ := summaryFlags_bits m
  have hentries : m.roster.length % 256 = (m.roster.map encodeEntry).length := by rw [List.length_map, Nat.mod_eq_of_lt hroster]
  have hhalted : (if decide (m.run = .halted) = true then RunState.halted else .running) = m.run := by cases m.run <;> rfl
  simp only [encodeSummary_eq, bytesOf16_eq, bytesOf32, List.cons_append, List.nil_append, List.append_assoc, takeSummary,
    BitVec.toNat_ofNat, hentries, takeBytes_append, Option.bind_eq_bind, Option.bind_some, Nat.mod_eq_of_lt hqueue,
    takeQueue_encode htotals, hhasCapture, takeCapture_encode hcapture, hhasGather, takeGather_encode hgather, allSome_map,
    captureField_map, extract_bytes_append, extract_digest_append, map_entryFrom hmissed, hrun, hhalted, Nat.mod_eq_of_lt hcursor]
  rfl

/-- The bytes of the summary of a BEAT, none when it carries none. -/
def summaryBytes : Option Image → List Byte
  | some m => encodeSummary m
  | none => []

theorem takeSummaryIf_encode {summary : Option Image} (h : ∀ m, summary = some m → m.fits) (rest : List Byte) :
    takeSummaryIf summary.isSome (summaryBytes summary ++ rest) = some (summary.map some, rest) := by
  cases summary with
  | none => rfl
  | some m => simp [takeSummaryIf, summaryBytes, takeSummary_encodeSummary (h m rfl)]

/-! ### Frames -/

/-- Byte 0 of a BEAT (12.1). -/
def beatByte0 (b : Beat) : Byte := twoNibbles b.sender.val (4 + (if b.summary.isSome then 2 else 0) + (if b.doubt then 1 else 0))

theorem beatByte0_bits (b : Beat) : ((beatByte0 b).extractLsb' 2 2).toNat = 1 ∧ (beatByte0 b).getLsbD 1 = b.summary.isSome ∧
    (beatByte0 b).getLsbD 0 = b.doubt ∧ highNibble (beatByte0 b) = b.sender := by
  refine ⟨?_, ?_, ?_, highNibble_twoNibbles ..⟩
  · rw [beatByte0, toNat_extract_twoNibbles]
    (repeat' split) <;> omega
  · rw [beatByte0, getLsbD_twoNibbles]
    cases b.summary.isSome <;> cases b.doubt <;> simp <;> omega
  · rw [beatByte0, getLsbD_twoNibbles]
    cases b.summary.isSome <;> cases b.doubt <;> simp <;> omega

theorem beatContent_eq (b : Beat) : beatContent b =
    beatByte0 b :: bytesOf16 b.epoch ++ bytesOf16 b.cycle ++
      [twoNibbles b.position.val b.records.length, BitVec.ofNat 8 b.items.length] ++
      b.items.flatMap encodeItem ++ b.records.flatMap encodeRecord ++ summaryBytes b.summary := by
  rw [beatContent, beatByte0]
  cases b.summary <;> rfl

/-- A BEAT whose counts and fields fit their places reads back whole (R189). -/
theorem takeFrame_beatContent {b : Beat} (hitems : b.items.length ≤ 7) (hrecords : b.records.length ≤ 15) (hfits : ∀ i ∈ b.items, i.fits)
    (hsummary : ∀ m, b.summary = some m → m.fits) (extra : List Byte) :
    takeFrame (beatContent b ++ extra) = some (.beat b true, extra) := by
  obtain ⟨hkind, hhas, hdoubt, hsender⟩ := beatByte0_bits b
  have hcount : ((BitVec.ofNat 8 b.items.length).extractLsb' 0 3).toNat = b.items.length := by
    rw [toNat_extract_eq, BitVec.toNat_ofNat]; omega
  have hlow : (lowNibble (twoNibbles b.position.val b.records.length)).val = b.records.length := lowNibble_twoNibbles (by omega) _
  have hvalues : (b.items.map some).filterMap id = b.items := by simp
  have hnone : (b.summary.map some).join = b.summary := by cases b.summary <;> rfl
  have hsome : (b.summary.map some != some none) = true := by cases b.summary <;> rfl
  simp only [beatContent_eq, bytesOf16_eq, List.cons_append, List.nil_append, List.append_assoc, takeFrame, hkind, takeBeat, hcount,
    takeItems_encode hfits, hlow, takeRecords_encode, hhas, takeSummaryIf_encode hsummary, Option.bind_eq_bind, Option.bind_some,
    hsender, hdoubt, extract_bytes_append, highNibble_twoNibbles, hvalues, hnone, hsome, allSome_map, Option.isSome_some, Bool.and_self]
  rfl

theorem takeFrame_joinContent (sender : StationId) (digest : Digest) (extra : List Byte) :
    takeFrame (joinContent sender digest ++ extra) = some (.join sender digest, extra) := by
  have hkind : ((twoNibbles sender.val 8).extractLsb' 2 2).toNat = 2 := by
    rw [toNat_extract_twoNibbles]; omega
  simp only [joinContent, bytesOf32, List.cons_append, List.nil_append, takeFrame, hkind, takeJoin, highNibble_twoNibbles,
    extract_digest_append]

/-- Settles O53. -/
theorem framesReadBackAsSent : Obligations.FramesReadBackAsSent := by
  refine ⟨fun bytes before run after level hline hrun => run_length_le hline hrun, fun b hitems hrecords htotals hsummary => ?_,
    fun sender digest => ?_⟩
  · have hfits : ∀ i ∈ b.items, i.fits := fun i hi => by
      cases i with
      | priorityReq cause total serial => exact htotals cause total serial hi
      | haltAck | resumeReq | haltReq | leave => trivial
    rw [receiveLine_lineOf, receiveBytes_withCrc (takeFrame_beatContent hitems hrecords hfits hsummary)]
  · rw [receiveLine_lineOf, receiveBytes_withCrc (takeFrame_joinContent sender digest)]

end Sys2Proof.Machine
end

section
/-! PROOF. The end of a frame that the station heard: what FRAME_END runs on, what the frame is taken for, and what comes after it (R26, R31, R51). -/

open Sys2Proof

namespace Sys2Proof.Machine

/-! ### What FRAME_END runs -/

/-- The station as its receiver leaves the frame. -/
def State.pastFrame (s : State) : State := s.setTi { s.ti with receiving := none }

/-- A JOIN still ARMED is then abandoned (R50). -/
def State.outOfFrame (s : State) : State := s.pastFrame.abandonArmedJoin

@[simp] theorem State.pastFrame_ti (s : State) : s.pastFrame.ti = { s.ti with receiving := none } := rfl

@[simp] theorem State.pastFrame_unchanged (s : State) :
    s.pastFrame.sc = s.sc ∧ s.pastFrame.iu = s.iu ∧ s.pastFrame.ct = s.ct ∧ s.pastFrame.cb = s.cb ∧ s.pastFrame.sq = s.sq ∧
      s.pastFrame.rm = s.rm ∧ s.pastFrame.rt = s.rt ∧ s.pastFrame.du = s.du ∧ s.pastFrame.cp = s.cp ∧ s.pastFrame.halt = s.halt ∧
      s.pastFrame.cfg = s.cfg ∧ s.pastFrame.free = s.free :=
  ⟨rfl, rfl, rfl, rfl, rfl, rfl, rfl, rfl, rfl, rfl, rfl, rfl⟩

/-- The records of a frame end, but at a station that the frame end took to FAULT (R154). -/
def State.handedOn (c : StationConfig) (origin : StationId) (records : List Record) (s : State) : State :=
  s.handOver c origin (s.judgedRecords records)

/-- What a frame end does once the frame is classified. -/
def Handled.concluded (c : StationConfig) (now : Instant) (closing : Bool) (h : Handled) : State :=
  let settled := (h.state.settle c now closing h.timing).refreshArmed
  settled.takeDeferredLeave.finish c now closing h.origin (settled.judgedRecords h.records)

section Exec

variable {s : State} {c : StationConfig} {inWindow : Bool}

theorem State.outOfFrame_of_not_armed (h : s.ti.tx ≠ .armed) : s.outOfFrame = s.pastFrame :=
  if_neg fun hjoin => h hjoin.1

theorem State.outOfFrame_of_beat (h : s.holdsBeat = true) : s.outOfFrame = s.pastFrame :=
  if_neg fun hjoin => absurd (h.symm.trans hjoin.2) (by simp)

theorem State.outOfFrame_of_join (h : s.ti.tx = .armed) (hjoin : s.holdsBeat = false) :
    s.outOfFrame = s.setTi { s.ti.noFrame with receiving := none } :=
  if_pos ⟨h, hjoin⟩

/-- A frame ends that is not the own one. -/
theorem exec_frameEnd_heard (hc : s.cfg = some c) (hr : s.ti.receiving = some inWindow) (hon : s.receiverOn = true)
    (hflight : s.ti.tx = .idle ∨ s.ti.tx = .armed ∨ s.ti.tx = .aborting) (now : Instant) (line : List Bool) :
    exec (.frameEnd now line) s = .next ((s.outOfFrame.classify c now (inWindow && s.ct.state == .window) inWindow line).concluded c now
      (inWindow && s.ct.state == .window)) := by
  have hnone : s.readbackMatched c line = false := by
    rcases hflight with h | h | h <;> simp [State.readbackMatched, State.frameInFlight, h]
  rw [exec_frameEnd hc hr hon]
  simp only [State.frameEnd, hnone, State.outOfFrame, Handled.concluded]
  rfl

/-- The own frame ends, read back as sent (R47). -/
theorem exec_frameEnd_own (hc : s.cfg = some c) (hr : s.ti.receiving = some inWindow) (hon : s.receiverOn = true)
    (hflight : s.ti.tx = .arbitrating ∨ s.ti.tx = .sending) {line : List Bool} (hline : s.sentLine c = some line) (now : Instant) :
    exec (.frameEnd now line) s = .next ((s.pastFrame.ownFrameEnd c).concluded c now
      (inWindow && s.ct.state == .window)) := by
  have hmatched : s.readbackMatched c line = true := by
    rcases hflight with h | h <;> simp [State.readbackMatched, State.frameInFlight, h, hline]
  have hout : s.outOfFrame = s.pastFrame :=
    State.outOfFrame_of_not_armed (by rcases hflight with h | h <;> simp [h])
  rw [exec_frameEnd hc hr hon, ← hout]
  simp only [State.frameEnd, hmatched, State.outOfFrame, Handled.concluded]
  rfl

end Exec

/-! ### What a frame is taken for (R51 to R57) -/

section Classify

variable {s : State} {c : StationConfig} {line : List Bool} (now : Instant) (closing inWindow : Bool)

theorem State.idClash_of_ne {sender : StationId} (h : sender ≠ c.id) : s.idClash c sender = false := by simp [State.idClash, h]

theorem State.idClash_self (h : s.ti.tx = .idle ∨ s.ti.tx = .armed) : s.idClash c c.id = true := by
  rcases h with h | h <;> simp [State.idClash, h]

theorem State.classify_broken (h : receiveLine line = .cutShort ∨ ∃ f, receiveLine line = .whole f false) :
    s.classify c now closing inWindow line = { state := s.receiveError, timing := .restart, origin := c.id, records := [] } := by
  rcases h with h | ⟨f, h⟩ <;> simp [State.classify, h]

theorem State.classify_join {sender : StationId} {digest : Digest} (h : receiveLine line = .whole (.join sender digest) true)
    (hother : sender ≠ c.id) : s.classify c now closing inWindow line = s.joinHeard sender digest inWindow := by
  simp [State.classify, h, State.idClash_of_ne hother]

theorem State.classify_unsound {b : Beat} {inRange : Bool} (h : receiveLine line = .whole (.beat b inRange) true)
    (hother : b.sender ≠ c.id) (hok : b.structureOk c inRange = false) :
    s.classify c now closing inWindow line = s.structureFailed b := by
  simp [State.classify, h, State.idClash_of_ne hother, hok]

theorem State.classify_sound {b : Beat} {inRange : Bool} (h : receiveLine line = .whole (.beat b inRange) true)
    (hother : b.sender ≠ c.id) (hok : b.structureOk c inRange = true) :
    s.classify c now closing inWindow line = s.soundBeat c now closing b := by
  simp [State.classify, h, State.idClash_of_ne hother, hok]

theorem State.classify_clash (ht : s.ti.tx = .idle ∨ s.ti.tx = .armed)
    (h : (∃ b inRange, receiveLine line = .whole (.beat b inRange) true ∧ b.sender = c.id) ∨
      ∃ digest, receiveLine line = .whole (.join c.id digest) true) :
    s.classify c now closing inWindow line = s.clashed c := by
  rcases h with ⟨b, inRange, h, hsender⟩ | ⟨digest, h⟩
  · simp [State.classify, h, hsender, State.idClash_self ht]
  · simp [State.classify, h, State.idClash_self ht]

theorem State.structureFailed_listed {b : Beat} {p : Nat} (h : s.iu.image.bind (·.position b.sender) = some p) :
    s.structureFailed b =
      { state := s.countInconsistent.hear b.sender, timing := .listed p, origin := b.sender, records := [] } := by
  have h' : s.countInconsistent.iu.image.bind (·.position b.sender) = some p := h
  simp only [State.structureFailed, h']

theorem State.structureFailed_unlisted {b : Beat} (h : s.iu.image.bind (·.position b.sender) = none) :
    s.structureFailed b = { state := s.countInconsistent, timing := .restart, origin := b.sender, records := [] } := by
  have h' : s.countInconsistent.iu.image.bind (·.position b.sender) = none := h
  simp only [State.structureFailed, h']

end Classify

/-- R2: the image lists exactly the senders that have a position in it. -/
theorem Image.position_of_lists {m : Image} {i : StationId} (h : m.lists i = true) : ∃ p, m.position i = some p :=
  ⟨_, if_pos h⟩

theorem Image.position_of_not_lists {m : Image} {i : StationId} (h : m.lists i = false) : m.position i = none :=
  if_neg (by simp [h])

theorem Image.lists_of_position {m : Image} {i : StationId} {p : Nat} (h : m.position i = some p) : m.lists i = true := by
  by_contra hnot
  rw [Image.position_of_not_lists (by simpa using hnot)] at h
  cases h

/-! ### Reports that stand -/

/-- On the way from `s` to `t` no event flag was cleared and no request was refused. -/
structure State.KeepsReports (s t : State) : Prop where
  flag : ∀ f, s.flag f = true → t.flag f = true
  lastRefusal : t.cp.lastRefusal = s.cp.lastRefusal

section Reports

variable {s t u : State} {c : StationConfig}

theorem State.KeepsReports.of_cp (h : t.cp = s.cp) : s.KeepsReports t :=
  ⟨fun f hf => by rwa [State.flag, h] , by rw [h]⟩

theorem State.KeepsReports.refl (s : State) : s.KeepsReports s := .of_cp rfl

theorem State.KeepsReports.trans (h : s.KeepsReports t) (h' : t.KeepsReports u) : s.KeepsReports u :=
  ⟨fun f hf => h'.flag f (h.flag f hf), h'.lastRefusal.trans h.lastRefusal⟩

theorem State.KeepsReports.raise (h : s.KeepsReports t) (f : EventFlag) : s.KeepsReports (t.raise f) :=
  h.trans ⟨fun _ hg => State.flag_raise_of_flag f _ hg, rfl⟩

theorem State.KeepsReports.raised (h : t.cp = s.cp) (f : EventFlag) : s.KeepsReports (t.raise f) := (State.KeepsReports.of_cp h).raise f

theorem State.KeepsReports.enterFault (s : State) (reason : FaultReason) : s.KeepsReports (s.enterFault reason) := by
  have hleft : s.KeepsReports (if s.sc.state = .member then s.leaveMember else s) := .of_cp (by split <;> simp)
  exact (hleft.trans (.of_cp (by simp))).raise _

theorem State.KeepsReports.judgeJoin (s : State) (now : Instant) : s.KeepsReports (s.judgeJoin c now) := by
  unfold State.judgeJoin
  (repeat' split)
  · exact .of_cp rfl
  · exact .of_cp rfl
  · exact .enterFault s _
  · exact .refl s

theorem State.KeepsReports.movePointer (s : State) (now : Instant) (p : Nat) : s.KeepsReports (s.movePointer c now p) := by
  by_cases hp : p < s.ct.members
  · rw [State.movePointer_slot hp]
    exact .of_cp (by simp [State.pointedAt])
  · by_cases hs : s.sc.state = .listen
    · rw [State.movePointer_window_listen (Nat.not_lt.1 hp) hs]
      have hopened : s.KeepsReports (s.setCt (s.ct.inWindowAt c now p)) := .of_cp rfl
      exact hopened.trans (.judgeJoin _ now)
    · rw [State.movePointer_window_not_listen (Nat.not_lt.1 hp) hs]
      exact .of_cp rfl

theorem State.KeepsReports.deliver (s : State) (origin : StationId) (r : Record) : s.KeepsReports (s.deliver origin r) := by
  unfold State.deliver
  split
  · unfold State.placeIn
    dsimp only
    split
    · unfold State.closeHalf
      exact .raised (by simp) .closed
    · exact .of_cp rfl
  · unfold State.dropRecord
    exact .raised (by simp) .dropped

theorem State.KeepsReports.handOver (s : State) (origin : StationId) (records : List Record) :
    s.KeepsReports (s.handOver c origin records) := by
  unfold State.handOver
  generalize records.filter (accepts c origin) = l
  induction l generalizing s with
  | nil => exact .refl s
  | cons r l ih => exact (State.KeepsReports.deliver s origin r).trans (ih _)

end Reports

end Sys2Proof.Machine
end

section
/-! PROOF. The pointer passes a slot at the end of a frame (R24, R26, R29), and the frame's records are handed on (R154, R157). -/

open Sys2Proof

namespace Sys2Proof.Machine

/-! ### The records -/

section Records

variable {s u : State} {c : StationConfig} {origin : StationId} {records : List Record}

theorem State.handedOn_of_on (h : s.receiverOn = true) :
    s.handedOn c origin records = (records.filter (accepts c origin)).foldl (State.deliver origin) s := by
  simp only [State.handedOn, State.judgedRecords, h, if_true]
  rfl

theorem State.handedOn_of_off (h : s.receiverOn = false) : s.handedOn c origin records = s := by
  simp [State.handedOn, State.judgedRecords, h]

@[simp] theorem State.handedOn_nil (s : State) (c : StationConfig) (origin : StationId) : s.handedOn c origin [] = s := by
  simp [State.handedOn, State.judgedRecords]

@[simp] theorem State.handedOn_unchanged (s : State) (c : StationConfig) (origin : StationId) (records : List Record) :
    (s.handedOn c origin records).sc = s.sc ∧ (s.handedOn c origin records).iu = s.iu ∧ (s.handedOn c origin records).ct = s.ct ∧
      (s.handedOn c origin records).ti = s.ti ∧ (s.handedOn c origin records).cb = s.cb ∧
      (s.handedOn c origin records).sq = s.sq ∧ (s.handedOn c origin records).rm = s.rm ∧
      (s.handedOn c origin records).rt = s.rt ∧ (s.handedOn c origin records).halt = s.halt := by
  simp [State.handedOn]

/-- R154: what the records of a frame do to the halves depends on the halves alone. -/
theorem State.handedOn_du (h : s.receiverOn = true) (hdu : s.du = u.du) :
    (s.handedOn c origin records).du = ((records.filter (accepts c origin)).foldl (State.deliver origin) u).du := by
  simp only [State.handedOn, State.judgedRecords, h, if_true]
  exact State.handOver_du_congr hdu c origin records

theorem State.KeepsReports.handedOn (s : State) : s.KeepsReports (s.handedOn c origin records) := .handOver s origin _

theorem State.receiverOn_of_fault (h : s.sc.state = .fault) : s.receiverOn = false := State.receiverOn_eq_false (.inr h)

theorem State.not_fault_of_on (h : s.receiverOn = true) : s.sc.state ≠ .fault :=
  fun hfault => absurd ((State.receiverOn_of_fault hfault).symm.trans h) (by simp)

theorem State.receiverOn_of_member (h : s.sc.state = .member) : s.receiverOn = true := by simp [State.receiverOn, h]

end Records

/-! ### The pointer moves -/

section Pointer

variable {s : State} {c : StationConfig} {now : Instant} {p : Nat}

/-- The CT with its pointer at a place: in the slot that begins there, or in the join window. -/
def CycleTimer.movedTo (t : CycleTimer) (c : StationConfig) (receiving : Option Bool) (now : Instant) (p : Nat) : CycleTimer :=
  if p < t.members then t.inSlotAt c receiving now p else t.inWindowAt c now p

theorem CycleTimer.movedTo_kept (t : CycleTimer) (c : StationConfig) (receiving : Option Bool) (now : Instant) (p : Nat) :
    (t.movedTo c receiving now p).pointer = p ∧ (t.movedTo c receiving now p).heard = t.heard ∧
      (t.movedTo c receiving now p).summarySeen = t.summarySeen ∧ (t.movedTo c receiving now p).mark = t.mark ∧
      (t.movedTo c receiving now p).nextOpening = t.nextOpening ∧ (t.movedTo c receiving now p).plan = t.plan ∧
      (t.movedTo c receiving now p).nextPhase = t.nextPhase ∧ (t.movedTo c receiving now p).phaseTaken = t.phaseTaken := by
  unfold CycleTimer.movedTo
  split <;> exact ⟨rfl, rfl, rfl, rfl, rfl, rfl, rfl, rfl⟩

theorem CycleTimer.movedTo_slots {t : CycleTimer} (h : p < t.members) (c : StationConfig) (receiving : Option Bool) (now : Instant) :
    (t.movedTo c receiving now p).state = .slots := congrArg CycleTimer.state (if_pos h)

theorem CycleTimer.movedTo_window {t : CycleTimer} (h : t.members ≤ p) (c : StationConfig) (receiving : Option Bool) (now : Instant) :
    (t.movedTo c receiving now p).state = .window ∧
      (t.movedTo c receiving now p).window = some (now + c.silence * unitsPerMicrosecond) ∧
      (t.movedTo c receiving now p).silence = none := by
  rw [CycleTimer.movedTo, if_neg (Nat.not_lt.2 h)]
  exact ⟨rfl, rfl, rfl⟩

/-- R67, R68: the judgment of a join leaves all but the transmitter, or leads to FAULT. -/
theorem State.judgeJoin_kept (h : (s.judgeJoin c now).sc.state ≠ .fault) :
    (s.judgeJoin c now).iu = s.iu ∧ (s.judgeJoin c now).ct = s.ct ∧ (s.judgeJoin c now).sc.state = s.sc.state := by
  unfold State.judgeJoin at h ⊢
  (repeat' split)
  · exact ⟨rfl, rfl, rfl⟩
  · exact ⟨rfl, rfl, rfl⟩
  next hmatch _ hreason hdigest => simp [hmatch, hreason, hdigest] at h
  · exact ⟨rfl, rfl, rfl⟩

theorem State.movePointer_kept (h : (s.movePointer c now p).sc.state ≠ .fault) :
    (s.movePointer c now p).iu = s.iu ∧ (s.movePointer c now p).ct = s.ct.movedTo c s.ti.receiving now p ∧
      (s.movePointer c now p).sc.state = s.sc.state := by
  unfold CycleTimer.movedTo
  split
  next hp => exact ⟨by rw [State.movePointer_slot hp]; simp [State.pointedAt], State.movePointer_slot_ct hp c now,
      by rw [State.movePointer_slot hp]; simp [State.pointedAt]⟩
  next hp =>
    by_cases hs : s.sc.state = .listen
    · rw [State.movePointer_window_listen (Nat.not_lt.1 hp) hs] at h ⊢
      exact State.judgeJoin_kept h
    · rw [State.movePointer_window_not_listen (Nat.not_lt.1 hp) hs]
      exact ⟨rfl, rfl, rfl⟩

theorem State.movePointer_slot_sc (h : p < s.ct.members) : (s.movePointer c now p).sc = s.sc := by
  rw [State.movePointer_slot h]
  simp [State.pointedAt]

theorem State.movePointer_sc_of_not_listen (h : s.sc.state ≠ .listen) : (s.movePointer c now p).sc = s.sc := by
  by_cases hp : p < s.ct.members
  · exact State.movePointer_slot_sc hp
  · rw [State.movePointer_window_not_listen (Nat.not_lt.1 hp) h]
    rfl

/-- R24, R29: but for the own slot, a move of the pointer leaves the records and the pending set. -/
theorem State.movePointer_rt_cb (h : s.sc.state ≠ .member) :
    (s.movePointer c now p).rt = s.rt ∧ (s.movePointer c now p).cb = s.cb := by
  by_cases hp : p < s.ct.members
  · rw [State.movePointer_slot_other hp (fun hown => h hown.1)]
    exact ⟨rfl, rfl⟩
  · rw [State.movePointer_window (Nat.not_lt.1 hp)]
    simp [State.pointedAt]

end Pointer

/-! ### A slot is passed -/

/-- The pointer takes a place at the end of a frame, and the frame's records are handed on. -/
def State.passes (c : StationConfig) (now : Instant) (p : Nat) (origin : StationId) (records : List Record) (s : State) : State :=
  (s.movePointer c now p).handedOn c origin records

section Passes

variable {s u : State} {c : StationConfig} {now : Instant} {p : Nat} {origin : StationId} {records : List Record}

theorem State.passes_kept (h : (s.passes c now p origin records).sc.state ≠ .fault) :
    (s.passes c now p origin records).iu = s.iu ∧ (s.passes c now p origin records).ct = s.ct.movedTo c s.ti.receiving now p ∧
      (s.passes c now p origin records).sc.state = s.sc.state := by
  have hmoved : (s.movePointer c now p).sc.state ≠ .fault := by simpa [State.passes] using h
  simpa [State.passes] using State.movePointer_kept hmoved

/-- R154: the records reach the halves. -/
theorem State.passes_du (hon : s.receiverOn = true) (h : (s.passes c now p origin records).sc.state ≠ .fault) (hdu : s.du = u.du) :
    (s.passes c now p origin records).du = ((records.filter (accepts c origin)).foldl (State.deliver origin) u).du := by
  have hmoved : (s.movePointer c now p).sc.state ≠ .fault := by simpa [State.passes] using h
  obtain ⟨-, -, hstate⟩ := State.movePointer_kept hmoved
  exact State.handedOn_du ((State.receiverOn_congr hstate).trans hon) (by simpa using hdu)

theorem State.passes_du_of_fault (h : (s.passes c now p origin records).sc.state = .fault) :
    (s.passes c now p origin records).du = s.du := by
  have hmoved : (s.movePointer c now p).sc.state = .fault := by simpa [State.passes] using h
  rw [State.passes, State.handedOn_of_off (State.receiverOn_of_fault hmoved)]
  simp

@[simp] theorem State.passes_unchanged (s : State) (c : StationConfig) (now : Instant) (p : Nat) (origin : StationId) (records : List Record) :
    (s.passes c now p origin records).sq = s.sq ∧ (s.passes c now p origin records).rm = s.rm ∧
      (s.passes c now p origin records).halt = s.halt ∧ (s.passes c now p origin records).ti.errors = s.ti.errors ∧
      (s.passes c now p origin records).ti.foreign = s.ti.foreign ∧
      (s.passes c now p origin records).ti.inconsistent = s.ti.inconsistent := by
  simp [State.passes]

theorem State.passes_sc_slot (h : p < s.ct.members) : (s.passes c now p origin records).sc = s.sc := by
  simpa [State.passes] using State.movePointer_slot_sc h

theorem State.passes_sc_of_not_listen (h : s.sc.state ≠ .listen) : (s.passes c now p origin records).sc = s.sc := by
  simpa [State.passes] using State.movePointer_sc_of_not_listen h

theorem State.passes_rt_cb (h : s.sc.state ≠ .member) :
    (s.passes c now p origin records).rt = s.rt ∧ (s.passes c now p origin records).cb = s.cb := by
  simpa [State.passes] using State.movePointer_rt_cb h

/-- R24: where the next slot is not the own one, its beginning leaves the trunk interface, the records and the pending set. -/
theorem State.passes_slot_other (h : p < s.ct.members) (hother : ¬ (s.sc.state = .member ∧ s.ct.position = some p)) :
    (s.passes c now p origin records).ti = s.ti ∧ (s.passes c now p origin records).rt = s.rt ∧
      (s.passes c now p origin records).cb = s.cb ∧ (s.passes c now p origin records).ct.state = .slots := by
  simp [State.passes, State.movePointer_slot_other h hother, CycleTimer.inSlotAt]

theorem State.passes_window_not_listen (h : s.ct.members ≤ p) (hs : s.sc.state ≠ .listen) :
    (s.passes c now p origin records).ti = s.ti ∧ (s.passes c now p origin records).rt = s.rt ∧
      (s.passes c now p origin records).cb = s.cb := by
  simp [State.passes, State.movePointer_window_not_listen h hs]

theorem State.KeepsReports.passes (s : State) : s.KeepsReports (s.passes c now p origin records) :=
  (State.KeepsReports.movePointer s now p).trans (.handedOn _)

theorem State.joinJudged.congr {t v : State} {m : Image} {seen : Bool} {sc : StationController} {ti : TrunkInterface}
    (h : t.joinJudged c m now seen sc ti) (hsc : v.sc = t.sc) (hti : v.ti = t.ti) (hiu : v.iu = t.iu) (hct : v.ct = t.ct)
    (hflags : t.KeepsReports v) : v.joinJudged c m now seen sc ti := by
  unfold State.joinJudged at h ⊢
  simp only [hsc, hti, hiu, hct]
  refine ⟨h.1, fun hwanted => ⟨(h.2 hwanted).1, fun hhold => ⟨((h.2 hwanted).2 hhold).1, fun hseen => ?_⟩⟩⟩
  obtain ⟨hlisted, hfree⟩ := ((h.2 hwanted).2 hhold).2 hseen
  refine ⟨hlisted, fun hnot => ⟨(hfree hnot).1, fun hroom => ⟨((hfree hnot).2 hroom).1, fun hdigest => ?_⟩⟩⟩
  obtain ⟨hstate, hreason, hiu', hct', htx, hr, hflag⟩ := ((hfree hnot).2 hroom).2 hdigest
  exact ⟨hstate, hreason, hiu', hct', htx, hr, hflags.flag _ hflag⟩

/-- R29, R67: the join window opens at a LISTEN station. -/
theorem State.passes_joinJudged {m : Image} (h : s.ct.members ≤ p) (hs : s.sc.state = .listen) (hm : s.iu.image = some m) :
    (s.passes c now p origin records).joinJudged c m now s.ct.summarySeen s.sc s.ti := by
  have hjudged := State.judgeJoin_joinJudged (s := s.setCt (s.ct.inWindowAt c now p)) hs hm c now
  rw [← State.movePointer_window_listen h hs] at hjudged
  refine State.joinJudged.congr hjudged ?_ ?_ ?_ ?_ (.handedOn _) <;> simp [State.passes]

end Passes

/-! ### What comes after the classification -/

section Concluded

variable {s : State} {c : StationConfig} {now : Instant} {h : Handled}

theorem Handled.concluded_open (htx : h.state.ti.tx ≠ .armed) (hleave : h.state.sc.deferredLeave = false) :
    h.concluded c now false = (h.state.settle c now false h.timing).handedOn c h.origin h.records := by
  have hmay : h.state.MayArm h.state := ⟨htx, fun _ => ⟨rfl, rfl⟩, hleave⟩
  have harms := hmay.settle (c := c) now false h.timing
  unfold Handled.concluded
  rw [harms.refreshArmed]
  simp only [State.takeDeferredLeave_of_none harms.settled, State.finish_open]
  rfl

/-- R26: the silence timer restarts for the current slot. -/
theorem Handled.concluded_restart (htx : h.state.ti.tx ≠ .armed) (hleave : h.state.sc.deferredLeave = false) (ht : h.timing = .restart)
    (hct : h.state.ct.state = .slots) :
    h.concluded c now false =
      (h.state.setCt { h.state.ct with silence := some (now + c.silence * unitsPerMicrosecond) }).handedOn c h.origin h.records := by
  rw [Handled.concluded_open htx hleave, ht, State.settle_restart hct]
  rfl

theorem Handled.concluded_untimed (htx : h.state.ti.tx ≠ .armed) (hleave : h.state.sc.deferredLeave = false)
    (hct : h.state.ct.state ≠ .slots) : h.concluded c now false = h.state.handedOn c h.origin h.records := by
  have hsettled : h.state.settle c now false h.timing = h.state := if_pos (.inr hct)
  rw [Handled.concluded_open htx hleave, hsettled]

theorem Handled.concluded_passed {p : Nat} (htx : h.state.ti.tx ≠ .armed) (hleave : h.state.sc.deferredLeave = false)
    (ht : h.timing = .listed p) (hct : h.state.ct.state = .slots) (hp : p < h.state.ct.pointer) :
    h.concluded c now false =
      (h.state.setCt { h.state.ct with silence := some (now + c.silence * unitsPerMicrosecond) }).handedOn c h.origin h.records := by
  rw [Handled.concluded_open htx hleave, ht]
  simp only [State.settle, Bool.false_eq_true, hct, ne_eq, not_true, or_false, if_false, Nat.not_le.2 hp]
  rfl

theorem Handled.concluded_listed {p : Nat} (htx : h.state.ti.tx ≠ .armed) (hleave : h.state.sc.deferredLeave = false)
    (ht : h.timing = .listed p) (hct : h.state.ct.state = .slots) (hp : h.state.ct.pointer ≤ p) :
    h.concluded c now false = h.state.passes c now (p + 1) h.origin h.records := by
  rw [Handled.concluded_open htx hleave, ht, State.settle_listed hct hp]
  rfl

theorem Handled.concluded_set (htx : h.state.ti.tx ≠ .armed) (hleave : h.state.sc.deferredLeave = false)
    (ht : h.timing = .set) (hct : h.state.ct.state = .slots) :
    h.concluded c now false = h.state.passes c now h.state.ct.pointer h.origin h.records := by
  rw [Handled.concluded_open htx hleave, ht, State.settle_set hct]
  rfl

end Concluded

/-- R25, R26: a slot that a frame end passes is passed as SLOT_PASSES would pass it. -/
theorem State.settlesSlotWith_of_passes {s u : State} {c : StationConfig} {now : Instant} {line : List Bool} {origin : StationId}
    {records : List Record} {p : Nat} (hc : u.cfg = some c) (hct : u.ct.state = .slots) (hon : u.receiverOn = true)
    (hend : exec (.frameEnd now line) s = .next (u.passes c now (p + 1) origin records)) :
    s.settlesSlotWith now line origin (records.filter (accepts c origin)) (u.setCt { u.ct with pointer := p, silence := some now }) := by
  refine ⟨u.movePointer c now (p + 1), State.exec_slotPasses_setCt hc hct now p, fun hv => ?_, ?_⟩
  · obtain ⟨hiu, hmoved, -⟩ := State.movePointer_kept hv
    obtain ⟨hpointer, hheard, -⟩ := u.ct.movedTo_kept c u.ti.receiving now (p + 1)
    rw [hmoved]
    exact ⟨hpointer, hheard, hiu⟩
  · rw [hend, State.passes]
    split
    next hfault => rw [State.handedOn_of_off (State.receiverOn_of_fault hfault)]
    next hv =>
      obtain ⟨-, -, hstate⟩ := State.movePointer_kept hv
      rw [State.handedOn_of_on ((State.receiverOn_congr hstate).trans hon)]

end Sys2Proof.Machine
end

section
/-! PROOF. The own BEAT read back as sent ends in the own slot (R47, R115). -/

open Sys2Proof

namespace Sys2Proof.Machine

/-! ### Items -/

/-- R7: items change the image and its marks, not what the station thinks of the image. -/
theorem State.applyItem_kept (s : State) (own sender : StationId) (item : Item) :
    (s.applyItem own sender item).iu.certainty = s.iu.certainty ∧ (s.applyItem own sender item).iu.copy = s.iu.copy ∧
      (s.applyItem own sender item).iu.image.isSome = s.iu.image.isSome := by
  unfold State.applyItem
  split
  next hm =>
    dsimp only
    split <;> simp [hm]
  · exact ⟨rfl, rfl, rfl⟩

theorem State.applyItems_kept (s : State) (own sender : StationId) (items : List Item) :
    (s.applyItems own sender items).iu.certainty = s.iu.certainty ∧ (s.applyItems own sender items).iu.copy = s.iu.copy ∧
      (s.applyItems own sender items).iu.image.isSome = s.iu.image.isSome := by
  unfold State.applyItems
  induction items generalizing s with
  | nil => exact ⟨rfl, rfl, rfl⟩
  | cons item items ih =>
    obtain ⟨hcertainty, hcopy, himage⟩ := ih (s.applyItem own sender item)
    obtain ⟨hcertainty', hcopy', himage'⟩ := s.applyItem_kept own sender item
    exact ⟨hcertainty.trans hcertainty', hcopy.trans hcopy', himage.trans himage'⟩

/-! ### The pending set -/

section Sent

variable {b : ItemBuffer} {items : List Item}

theorem Item.code_eq_four_iff (i : Item) : i.code = 4 ↔ ∃ q n k, i = .priorityReq q n k := by
  cases i <;> simp [Item.code]

theorem carriesRequest_iff : items.any (fun i => i.code == 4) = true ↔ ∃ q n k, Item.priorityReq q n k ∈ items := by
  simp only [List.any_eq_true, beq_iff_eq, Item.code_eq_four_iff]
  constructor
  · rintro ⟨_, hmem, q, n, k, rfl⟩
    exact ⟨q, n, k, hmem⟩
  · rintro ⟨q, n, k, hmem⟩
    exact ⟨_, hmem, q, n, k, rfl⟩

/-- R115: a PRIORITY_REQ carried leaves the pending set and is counted. -/
theorem ItemBuffer.sent_request :
    ((∃ q n k, Item.priorityReq q n k ∈ items) → (b.sent items).request = none ∧ (b.sent items).serial = b.serial + 1) ∧
      ((∀ q n k, Item.priorityReq q n k ∉ items) → (b.sent items).request = b.request ∧ (b.sent items).serial = b.serial) := by
  refine ⟨fun h => ?_, fun h => ?_⟩
  · simp only [ItemBuffer.sent, carriesRequest_iff.2 h, if_true, and_self]
  · have hnone : ¬ items.any (fun i => i.code == 4) = true := fun hany => by
      obtain ⟨q, n, k, hmem⟩ := carriesRequest_iff.1 hany
      exact h q n k hmem
    simp only [ItemBuffer.sent, if_neg hnone, and_self]

end Sent

/-! ### The own BEAT -/

/-- What stands in the transmitter is a BEAT. -/
theorem State.sentLine_of_ownBeat {s : State} {c : StationConfig} {b : Beat} (h : s.ownBeat c = some b) :
    s.sentLine c = some (lineOf (withCrc (beatContent b))) ∧ s.ownFrameEnd c = s.ownBeatEnd c b := by
  have hframe : ∃ d e y p i k m, s.ti.frame = some (.beat d e y p i k m) := by
    unfold State.ownBeat at h
    split at h
    next d e y p i k m hframe => exact ⟨d, e, y, p, i, k, m, hframe⟩
    · cases h
    · cases h
  obtain ⟨d, e, y, p, i, k, m, hframe⟩ := hframe
  constructor
  · simp only [State.sentLine, State.ownBytes, hframe, h, Option.map_some]
  · simp only [State.ownFrameEnd, hframe, h]

/-- The station once its BEAT was read back as sent, before its own slot is passed. -/
def State.beatSent (c : StationConfig) (b : Beat) (s : State) : State :=
  let s := ((s.setTi s.ti.matched).setCb (s.cb.sent b.items)).setRt { s.rt with inFlight := [] }
  (s.setCt { s.ct with
    summarySeen := s.ct.summarySeen || b.summary.isSome
    heard := IdSet.add s.ct.heard c.id }).applyItems c.id c.id b.items

theorem State.beatSent_spec (s : State) (c : StationConfig) (b : Beat) :
    (s.beatSent c b).ti = s.ti.matched ∧ (s.beatSent c b).cb = s.cb.sent b.items ∧ (s.beatSent c b).rt = { s.rt with inFlight := [] } ∧
      (s.beatSent c b).ct = { s.ct with
        summarySeen := s.ct.summarySeen || b.summary.isSome
        heard := IdSet.add s.ct.heard c.id } ∧
      (s.beatSent c b).iu = (s.applyItems c.id c.id b.items).iu ∧ (s.beatSent c b).du = s.du ∧ (s.beatSent c b).sc = s.sc ∧
      (s.beatSent c b).sq = s.sq ∧ (s.beatSent c b).rm = s.rm := by
  refine ⟨?_, ?_, ?_, ?_, State.applyItems_iu_congr (by simp) c.id c.id b.items, ?_, ?_, ?_, ?_⟩ <;> simp [State.beatSent]

theorem State.ownBeatEnd_listed {s : State} {c : StationConfig} {b : Beat} {p : Nat} (h : s.iu.image.bind (·.position c.id) = some p) :
    s.ownBeatEnd c b = { state := s.beatSent c b, timing := .listed p, origin := c.id, records := b.records } := by
  simp only [State.ownBeatEnd, State.hear, State.setCt_iu, State.setRt_iu, State.setCb_iu, State.setTi_iu, h]
  rfl

/-- Settles O37. -/
theorem ownBeatEndsWithMatchingReadback : Obligations.OwnBeatEndsWithMatchingReadback := by
  unfold Obligations.OwnBeatEndsWithMatchingReadback
  intro s c m b now line p hc hs hleave hm hct hr ht hbeat hline hpos hown hpointer
  have hbeat' : s.pastFrame.ownBeat c = some b := hbeat
  obtain ⟨hsent, -⟩ := State.sentLine_of_ownBeat hbeat
  obtain ⟨-, hend⟩ := State.sentLine_of_ownBeat hbeat'
  have hlisted := State.ownBeatEnd_listed (s := s.pastFrame) (c := c) (b := b) (p := p) (by simp [hm, hpos])
  obtain ⟨u, hu⟩ : ∃ u, u = s.pastFrame.beatSent c b := ⟨_, rfl⟩
  obtain ⟨hti, hcb, hrt, hct', hiu, hdu, hsc, hsq, hrm⟩ := State.beatSent_spec s.pastFrame c b
  rw [← hu] at hti hcb hrt hct' hiu hdu hsc hsq hrm hlisted
  have hiu' : u.iu = (s.applyItems c.id c.id b.items).iu := hiu.trans (State.applyItems_iu_congr (by simp) c.id c.id b.items)
  have hmember : u.sc.state = .member := by rw [hsc]; exact hs
  have hexec := exec_frameEnd_own hc hr (State.receiverOn_of_member hs) ht (hline ▸ hsent) now
  rw [Bool.false_and, hend, hlisted, Handled.concluded_listed (h := { state := u, timing := .listed p, origin := c.id, records := b.records })
    (by simp [hti, TrunkInterface.matched, TrunkInterface.noFrame]) (by simpa [hsc] using hleave) rfl (by simpa [hct'] using hct)
    (by simp [hct', hpointer])] at hexec
  obtain ⟨hti', hrt', hcb'⟩ : (u.passes c now (p + 1) c.id b.records).ti = u.ti ∧ (u.passes c now (p + 1) c.id b.records).rt = u.rt ∧
      (u.passes c now (p + 1) c.id b.records).cb = u.cb := by
    by_cases hlast : p + 1 < u.ct.members
    · have hother : ¬ (u.sc.state = .member ∧ u.ct.position = some (p + 1)) := fun h => by
        have hposition : u.ct.position = s.ct.position := by rw [hct']; rfl
        simp [hposition, hown] at h
      obtain ⟨hti', hrt', hcb', -⟩ := State.passes_slot_other (c := c) (now := now) (origin := c.id) (records := b.records) hlast hother
      exact ⟨hti', hrt', hcb'⟩
    · exact State.passes_window_not_listen (Nat.not_lt.1 hlast) (by simp [hmember])
  have hsc' : (u.passes c now (p + 1) c.id b.records).sc = u.sc := State.passes_sc_of_not_listen (by simp [hmember])
  have hnotFault : (u.passes c now (p + 1) c.id b.records).sc.state ≠ .fault := by simp [hsc', hmember]
  obtain ⟨hiuEnd, hctEnd, -⟩ := State.passes_kept hnotFault
  obtain ⟨hpointer', hheard', hseen', -⟩ := u.ct.movedTo_kept c u.ti.receiving now (p + 1)
  have hdu' := State.passes_du (State.receiverOn_of_member hmember) hnotFault (u := s) (hdu.trans rfl)
  have hcbEnd : (u.passes c now (p + 1) c.id b.records).cb = s.cb.sent b.items := hcb'.trans hcb
  have hrequest := ItemBuffer.sent_request (b := s.cb) (items := b.items)
  refine ⟨_, hexec, ?_, ?_, ?_, ?_, ?_, ?_, ?_, hcbEnd, ?_, ?_, hdu', ?_, fun hsummary => ?_, ?_, ?_, ?_, ?_, ?_, ?_, ?_, ?_, ?_, ?_, ?_, ?_,
    ?_, ?_⟩
  · simp [hti', hti, TrunkInterface.matched, TrunkInterface.noFrame]
  · simp [hti', hti, TrunkInterface.matched, TrunkInterface.noFrame]
  · simp [hti', hti, TrunkInterface.matched]
  · simp [hti]
  · simp [hti]
  · simp [hti]
  · rw [hrt', hrt]; rfl
  · rw [hiuEnd, hiu']
  · rw [hiuEnd, hiu']; exact (s.applyItems_kept c.id c.id b.items).1
  · rw [hctEnd, hheard', hct']; simp
  · rw [hctEnd, hseen', hct']; simp [hsummary]
  · rw [hctEnd, hpointer']
  · rw [hsc', hsc]; rfl
  · simp [hsq]
  · simp [hrm]
  all_goals rw [hcbEnd]
  · intro h; simp [ItemBuffer.sent, h]
  · intro h; simp [ItemBuffer.sent, h]
  · intro h; simp [ItemBuffer.sent, h]
  · intro h; simp [ItemBuffer.sent, h]
  · intro h hfresh; simp [ItemBuffer.sent, h, hfresh]
  · rintro (h | h) <;> simp [ItemBuffer.sent, h]
  · intro h hfresh; simp [ItemBuffer.sent, h, hfresh]
  · rintro (h | h) <;> simp [ItemBuffer.sent, h]
  · exact hrequest.1
  · exact hrequest.2

end Sys2Proof.Machine
end

section
/-! PROOF. Frames of no listed sender, frames with the own id (R54, R57), and frames that are not clean or not consistent (R52, R53, R55, R56). -/

open Sys2Proof

namespace Sys2Proof.Machine

/-! ### Frames that change little -/

/-- The CT at a frame end that settles no slot: in the slots the silence timer restarts (R26). -/
def CycleTimer.restarted (t : CycleTimer) (c : StationConfig) (now : Instant) : CycleTimer :=
  if t.state = .slots then { t with silence := some (now + c.silence * unitsPerMicrosecond) } else t

theorem Handled.concluded_restarted {c : StationConfig} {now : Instant} {h : Handled} (htx : h.state.ti.tx ≠ .armed)
    (hleave : h.state.sc.deferredLeave = false) (ht : h.timing = .restart) :
    h.concluded c now false = (h.state.setCt (h.state.ct.restarted c now)).handedOn c h.origin h.records := by
  unfold CycleTimer.restarted
  split
  next hct => exact Handled.concluded_restart htx hleave ht hct
  next hct => exact Handled.concluded_untimed htx hleave hct

/-- A frame end that took the station off the trunk does nothing more. -/
theorem Handled.concluded_off {c : StationConfig} {now : Instant} {closing : Bool} {h : Handled} (htx : h.state.ti.tx ≠ .armed)
    (hleave : h.state.sc.deferredLeave = false) (hct : h.state.ct = .stopped) (hrecords : h.records = []) :
    h.concluded c now closing = h.state := by
  have hsettled : h.state.settle c now closing h.timing = h.state := if_pos (.inr (by simp [hct, CycleTimer.stopped]))
  have hopen : ¬ (closing = true ∧ h.state.ct.state = .window) := by simp [hct, CycleTimer.stopped]
  unfold Handled.concluded
  simp only [hsettled, State.refreshArmed_of_not_armed htx, State.takeDeferredLeave_of_none hleave, hrecords, State.judgedRecords, ite_self,
    State.finish, if_neg hopen, State.handOver_nil]

/-- FAULT at a MEMBER (R81, R85). -/
theorem State.enterFault_of_member {s : State} (h : s.sc.state = .member) (reason : FaultReason) :
    s.enterFault reason = (s.leaveMember.offTrunk.setSc { s.leaveMember.sc with
      state := .fault, faultReason := some reason, holdoff := none, founding := none, deferredLeave := false }).raise .fault := by
  simp only [State.enterFault, if_pos h]

section Beats

variable {s : State} {c : StationConfig} {m : Image} {p : Nat} {b : Beat}

/-- R55 without a summary: what the header of a listed sender's BEAT says against the station. -/
def Beat.doubted (b : Beat) (m : Image) (t : CycleTimer) : Prop := b.epoch ≠ m.epoch ∨ b.cycle ≠ m.cycle ∨ t.positionPassed b = true

theorem headerDoubt_iff (t : CycleTimer) : headerDoubt m t false b = true ↔ b.doubted m t := by
  simp [headerDoubt, Beat.doubted, or_assoc]

theorem State.listedBeat_doubted (h : b.doubted m s.ct) : s.listedBeat c m p .ignored b = s.countInconsistent.goDoubtful := by
  have hdoubt : headerDoubt m s.ct (SummaryOutcome.ignored == .confirmed || SummaryOutcome.ignored == .taken) b = true :=
    (headerDoubt_iff s.ct).2 h
  exact if_pos (by rw [hdoubt]; rfl)

theorem State.listedBeat_undoubted (h : ¬ b.doubted m s.ct) :
    s.listedBeat c m p .ignored b = if b.position.val ≠ p then s.countInconsistent else s.applyItems c.id b.sender b.items := by
  have hdoubt : headerDoubt m s.ct (SummaryOutcome.ignored == .confirmed || SummaryOutcome.ignored == .taken) b = false :=
    Bool.eq_false_iff.2 fun hd => h ((headerDoubt_iff s.ct).1 hd)
  exact if_neg (by rw [hdoubt]; decide)

/-- A BEAT without a summary of a sender that the image lists (R54, R55). -/
theorem State.soundBeat_plain (now : Instant) (closing : Bool) (hb : b.summary = none) (hm : s.iu.image = some m)
    (hp : m.position b.sender = some p) :
    s.soundBeat c now closing b =
      { state := (s.listedBeat c m p .ignored b).hear b.sender, timing := .listed p, origin := b.sender, records := b.records } :=
  State.soundBeat_listed (State.summaryStep_none hb c now closing) hm hp

theorem State.soundBeat_plain_foreign (now : Instant) (closing : Bool) (hb : b.summary = none) (hm : s.iu.image = some m)
    (hp : m.position b.sender = none) :
    s.soundBeat c now closing b =
      { state := (s.setTi { s.ti with foreign := saturate255 s.ti.foreign }).raise .foreign, timing := .restart, origin := b.sender,
        records := [] } :=
  State.soundBeat_foreign (State.summaryStep_none hb c now closing) hm hp

theorem State.soundBeat_plain_unplaced (now : Instant) (closing : Bool) (hb : b.summary = none) (hm : s.iu.image = none) :
    s.soundBeat c now closing b = { state := s, timing := .restart, origin := b.sender, records := [] } :=
  State.soundBeat_unplaced (State.summaryStep_none hb c now closing) hm

end Beats

theorem State.enterFault_spec (s : State) (reason : FaultReason) :
    (s.enterFault reason).sc.state = .fault ∧ (s.enterFault reason).sc.faultReason = some reason ∧
      (s.enterFault reason).sc.founding = none ∧ (s.enterFault reason).sc.holdoff = none ∧
      (s.enterFault reason).sc.deferredLeave = false ∧ (s.enterFault reason).flag .fault = true ∧ (s.enterFault reason).iu = .empty ∧
      (s.enterFault reason).ct = .stopped ∧ (s.enterFault reason).ti.tx = .idle ∧ (s.enterFault reason).ti.frame = none ∧
      (s.enterFault reason).ti.receiving = none :=
  ⟨rfl, rfl, rfl, rfl, rfl, State.flag_raise_self _ _, rfl, rfl, rfl, rfl, rfl⟩

/-- Settles O38. -/
theorem foreignBeatAndIdClash : Obligations.ForeignBeatAndIdClash := by
  refine ⟨fun s c b now line hc hon hleave hr ht hline hok hb hother => ⟨fun m hct hm hlists => ?_, fun hct hm => ?_⟩,
    fun s c now line inWindow hc hs hr ht hclash => ?_⟩
  · rw [exec_frameEnd_heard hc hr hon (.inl ht), Bool.false_and, State.outOfFrame_of_not_armed (by simp [ht]),
      State.classify_sound now _ _ hline hother hok, State.soundBeat_plain_foreign (s := s.pastFrame) now false hb hm (Image.position_of_not_lists hlists),
      Handled.concluded_restart (by simp [ht]) (by simpa using hleave) rfl (by simpa using hct), State.handedOn_nil]
    rfl
  · rw [exec_frameEnd_heard hc hr hon (.inl ht), Bool.false_and, State.outOfFrame_of_not_armed (by simp [ht]),
      State.classify_sound now _ _ hline hother hok, State.soundBeat_plain_unplaced (s := s.pastFrame) now false hb hm,
      Handled.concluded_untimed (by simp [ht]) hleave (by simp [hct]), State.handedOn_nil]
    rfl
  · have hon : s.receiverOn = true := by rcases hs with h | h | h <;> simp [State.receiverOn, h]
    have htx : s.outOfFrame.ti.tx = .idle ∨ s.outOfFrame.ti.tx = .armed := by
      unfold State.outOfFrame State.abandonArmedJoin
      split
      · exact .inl rfl
      · exact ht
    have hsc : s.outOfFrame.sc = s.sc := by simp [State.outOfFrame]
    obtain ⟨hstate, hreason, hfounding, hholdoff, hleave, hflag, hiu, hct, htxEnd, hframe, hreceiving⟩ :=
      s.outOfFrame.enterFault_spec .idClash
    have hend : exec (.frameEnd now line) s = .next (s.outOfFrame.enterFault .idClash) := by
      rw [exec_frameEnd_heard hc hr hon (by rcases ht with h | h <;> simp [h]), State.classify_clash now _ _ htx hclash]
      exact congrArg Host.Outcome.next (Handled.concluded_off (h := s.outOfFrame.clashed c) (ne_of_eq_of_ne htxEnd (by simp)) hleave hct rfl)
    refine ⟨_, hend, hstate, hreason, hfounding, hholdoff, hflag, hiu, hct, htxEnd, hframe, hreceiving, ?_, ?_, ?_, ?_, ?_, fun hm => ?_,
      fun hm => ?_⟩
    iterate 5 simp [State.outOfFrame]
    · rw [← hsc] at hm
      rw [State.enterFault_of_member hm]
      refine ⟨ItemBuffer.discarded_isEmpty _, ?_, rfl, ?_, rfl⟩ <;> simp [State.leaveMember, State.outOfFrame, ItemBuffer.discarded]
    · rw [← hsc] at hm
      rw [State.enterFault_eq_of_not_member hm]
      simp [State.outOfFrame]

end Sys2Proof.Machine
end

section
/-! PROOF. Clean BEATs of listed senders (R7, R54), and frames that are not clean or not consistent (R52, R53, R55, R56). -/

open Sys2Proof

namespace Sys2Proof.Machine

/-- The count, the doubt and the heard sender of a frame that gives no items. -/
theorem State.countInconsistent_goDoubtful_eq (s : State) : s.countInconsistent.goDoubtful =
    (s.setTi { s.ti with inconsistent := saturate255 s.ti.inconsistent }).setIu
      { s.iu with certainty := if s.sc.state = .member then some .doubtful else s.iu.certainty } := by
  by_cases hs : s.sc.state = .member
  · rw [if_pos hs]
    exact State.goDoubtful_of_member hs
  · rw [if_neg hs]
    exact State.goDoubtful_of_not_member hs

theorem State.receiveError_eq (s : State) : s.receiveError =
    ((s.setTi { s.ti with errors := saturate255 s.ti.errors }).setCp { s.cp with flags := s.cp.flags ||| 0x0080 }).setIu
      (if s.sc.state = .member then { s.iu with certainty := some .doubtful } else s.iu) := by
  by_cases hs : s.sc.state = .member
  · rw [if_pos hs]
    exact State.goDoubtful_of_member hs
  · rw [if_neg hs]
    exact State.goDoubtful_of_not_member hs

theorem CycleTimer.positionPassed_slots {t : CycleTimer} (h : t.state = .slots) (b : Beat) :
    t.positionPassed b = true ↔ b.position.val < t.pointer := by simp [CycleTimer.positionPassed, h]

/-! ### Items and the rest of the station -/

section Commute

variable (s : State) (own sender : StationId)

/-- Items have nothing to do with the trunk interface. -/
theorem State.applyItem_setTi (item : Item) (x : TrunkInterface) :
    (s.setTi x).applyItem own sender item = (s.applyItem own sender item).setTi x := by
  unfold State.applyItem
  cases hm : s.iu.image with
  | none => simp only [State.setTi_iu, hm]
  | some m =>
    by_cases hs : s.sc.state = .member
    · simp only [State.setTi_iu, hm, State.setIu_sc, State.setTi_sc, hs, if_true, State.reportItem]
      (repeat' split) <;> rfl
    · simp only [State.setTi_iu, hm, State.setIu_sc, State.setTi_sc, hs, if_false]
      rfl

theorem State.applyItems_setTi (items : List Item) (x : TrunkInterface) :
    (s.setTi x).applyItems own sender items = (s.applyItems own sender items).setTi x := by
  unfold State.applyItems
  induction items generalizing s with
  | nil => rfl
  | cons item items ih =>
    simp only [List.foldl_cons, State.applyItem_setTi, ih]

end Commute

/-- Settles O39. -/
theorem cleanBeatIsTaken : Obligations.CleanBeatIsTaken := by
  unfold Obligations.CleanBeatIsTaken
  intro s c m b now line p hc hon hleave hm hct hr ht hline hok hb hother hp hposition hepoch hcycle hcomes delivered
  have hundoubted : ¬ b.doubted m s.pastFrame.ct := by
    rintro (h | h | h)
    · exact h hepoch
    · exact h hcycle
    · have hlt : b.position.val < s.ct.pointer := (CycleTimer.positionPassed_slots (t := s.pastFrame.ct) hct b).1 h
      omega
  obtain ⟨u, hu⟩ : ∃ u, u = (s.pastFrame.applyItems c.id b.sender b.items).hear b.sender := ⟨_, rfl⟩
  have hsc : u.sc = s.sc := by rw [hu]; simp
  have hucfg : u.cfg = some c := by rw [hu]; simp [hc]
  have huct : u.ct = { s.ct with heard := IdSet.add s.ct.heard b.sender } := by rw [hu]; simp [State.hear]
  have huti : u.ti = { s.ti with receiving := none } := by rw [hu]; simp
  have huiu : u.iu = (s.applyItems c.id b.sender b.items).iu := by
    rw [hu, State.hear, State.setCt_iu]
    exact State.applyItems_iu_congr (by simp) _ _ _
  have hudu : u.du = s.du := by rw [hu]; simp
  have huon : u.receiverOn = true := (State.receiverOn_congr (by rw [hsc])).trans hon
  have hend : exec (.frameEnd now line) s = .next (u.passes c now (p + 1) b.sender b.records) := by
    rw [exec_frameEnd_heard hc hr hon (.inl ht), Bool.false_and, State.outOfFrame_of_not_armed (by simp [ht]),
      State.classify_sound now _ _ hline hother hok, State.soundBeat_plain (s := s.pastFrame) now false hb hm hp,
      State.listedBeat_undoubted hundoubted, if_neg (not_not.2 hposition), ← hu]
    exact congrArg Host.Outcome.next (Handled.concluded_listed (by simp [huti, ht]) (by simpa [hsc] using hleave) rfl
      (by simpa [huct] using hct) (by simpa [huct] using hcomes))
  have hmembers : u.ct.members = s.ct.members := by rw [huct]; rfl
  obtain ⟨hpointer, hheard, -⟩ := u.ct.movedTo_kept c u.ti.receiving now (p + 1)
  refine ⟨?_, _, hend, ?_, ?_, ?_, fun hfault => ?_, fun hnot => ?_⟩
  · have hsettles := State.settlesSlotWith_of_passes hucfg (by rw [huct]; exact hct) huon hend
    have hu' : u.setCt { u.ct with pointer := p, silence := some now } =
        ((s.applyItems c.id b.sender b.items).setTi { s.ti with receiving := none }).setCt
          { s.ct with heard := IdSet.add s.ct.heard b.sender, pointer := p, silence := some now } := by
      rw [huct, hu, State.pastFrame, State.applyItems_setTi]
      rfl
    rwa [hu'] at hsettles
  · simp [huti]
  · simp [huti]
  · simp [huti]
  · refine ⟨?_, (State.passes_du_of_fault hfault).trans hudu⟩
    by_contra hlisten
    rw [State.passes_sc_of_not_listen (by rwa [hsc]), hsc] at hfault
    exact State.not_fault_of_on hon hfault
  · obtain ⟨hiu, hmoved, hstate⟩ := State.passes_kept hnot
    refine ⟨?_, ?_, by rw [hiu, huiu], ?_, State.passes_du huon hnot hudu, fun hlisten => ?_, fun hslot => ?_, fun hlast => ?_⟩
    · rw [hmoved, hheard, huct]; simp
    · rw [hmoved, hpointer]
    · rw [hiu, huiu]; exact (s.applyItems_kept _ _ _).1
    · rw [State.passes_sc_of_not_listen (by rwa [hsc]), hsc]
    · rw [← hmembers] at hslot
      exact ⟨by rw [hmoved, CycleTimer.movedTo_slots hslot], by rw [State.passes_sc_slot hslot, hsc]⟩
    · rw [← hmembers] at hlast
      rw [hmoved]
      exact (CycleTimer.movedTo_window hlast c _ now).1

/-- Settles O40. -/
theorem erroneousAndInconsistentFramesAreCounted : Obligations.ErroneousAndInconsistentFramesAreCounted := by
  unfold Obligations.ErroneousAndInconsistentFramesAreCounted
  intro s c now line hc hon hleave hct ht saturated counted restarted doubted heardAt
  have hwindow : (s.ct.state == .window) = false := by rcases hct with h | h <;> simp [h]
  have hnot : s.ti.tx ≠ .armed := by rcases ht with h | h <;> simp [h]
  have hflight : s.ti.tx = .idle ∨ s.ti.tx = .armed ∨ s.ti.tx = .aborting := by rcases ht with h | h <;> simp [h]
  have hcounted : s.pastFrame.countInconsistent = s.setTi counted := rfl
  have hend : ∀ w, s.ti.receiving = some w →
      exec (.frameEnd now line) s = .next ((s.pastFrame.classify c now false w line).concluded c now false) := fun w hr => by
    rw [exec_frameEnd_heard hc hr hon hflight, hwindow, Bool.and_false, State.outOfFrame_of_not_armed hnot]
  refine ⟨fun hr hbroken => ?_, fun hr => ⟨fun b inRange hline hother hok => ⟨fun hunlisted => ?_, fun m p hslots hm hp => ?_⟩,
    fun b m p hline hother hok hb hslots hm hp => ?_, fun sender digest hline hother => ?_⟩⟩
  · obtain ⟨w, hw⟩ := Option.isSome_iff_exists.1 hr
    rw [hend w hw, State.classify_broken now _ _ hbroken, Handled.concluded_restarted (by simpa [State.receiveError_eq] using hnot)
      (by simpa [State.receiveError_eq] using hleave) rfl, State.handedOn_nil, State.receiveError_eq]
    rfl
  · have hnone : s.pastFrame.iu.image.bind (·.position b.sender) = none := by
      cases hm : s.iu.image with
      | none => simp [hm]
      | some m => simpa [hm] using Image.position_of_not_lists (hunlisted m hm)
    rw [hend false hr, State.classify_unsound now _ _ hline hother hok, State.structureFailed_unlisted hnone,
      Handled.concluded_restarted hnot hleave rfl, State.handedOn_nil]
    rfl
  · have hlisted : s.pastFrame.iu.image.bind (·.position b.sender) = some p := by simpa [hm] using hp
    have hstart := hend false hr
    rw [State.classify_unsound now _ _ hline hother hok, State.structureFailed_listed hlisted] at hstart
    refine ⟨fun hpassed => ?_, fun hcomes => ?_⟩
    · rw [hstart, Handled.concluded_passed hnot hleave rfl hslots hpassed, State.handedOn_nil]
      simp only [restarted, if_pos hslots]
      rfl
    · rw [Handled.concluded_listed hnot hleave rfl hslots hcomes] at hstart
      exact State.settlesSlotWith_of_passes (u := s.pastFrame.countInconsistent.hear b.sender) hc hslots hon hstart
  · intro wrong judged hbad
    have hwrong : b.doubted m s.pastFrame.ct ↔ wrong :=
      or_congr Iff.rfl (or_congr Iff.rfl (CycleTimer.positionPassed_slots (t := s.pastFrame.ct) hslots b))
    have hlisted : s.pastFrame.listedBeat c m p .ignored b = (s.setTi counted).setIu judged := by
      by_cases hw : wrong
      · have hjudged : judged = { s.iu with certainty := if s.sc.state = .member then some .doubtful else s.iu.certainty } := by
          simp only [judged, doubted, if_pos hw]
          split <;> rfl
        rw [State.listedBeat_doubted (hwrong.2 hw), State.countInconsistent_goDoubtful_eq, hjudged]
        rfl
      · have hjudged : judged = s.iu := by simp only [judged, if_neg hw]
        rw [State.listedBeat_undoubted (fun hd => hw (hwrong.1 hd)), if_pos (hbad.resolve_left hw), hjudged]
        rfl
    have hstart := hend false hr
    rw [State.classify_sound now _ _ hline hother hok, State.soundBeat_plain (s := s.pastFrame) now false hb hm hp, hlisted] at hstart
    refine ⟨fun hpassed => ?_, fun hcomes => ?_⟩
    · rw [hstart, Handled.concluded_passed hnot hleave rfl hslots hpassed, State.handedOn_of_on (by exact hon)]
      simp only [restarted, if_pos hslots]
      rfl
    · rw [Handled.concluded_listed hnot hleave rfl hslots hcomes] at hstart
      exact State.settlesSlotWith_of_passes (u := ((s.setTi counted).setIu judged).hear b.sender) hc hslots hon hstart
  · rw [hend false hr, State.classify_join now _ _ hline hother]
    have hjoin : s.pastFrame.joinHeard sender digest false =
        { state := s.setTi counted, timing := .restart, origin := sender, records := [] } := rfl
    rw [hjoin, Handled.concluded_restarted hnot hleave rfl, State.handedOn_nil]
    rfl

end Sys2Proof.Machine
end

section
/-! PROOF. A frame that closes the join window ends the cycle (R31), with the records before or after it (R162). -/

open Sys2Proof

namespace Sys2Proof.Machine

/-! ### Where the window timer stood is nothing to a cycle end -/

section Window

variable (s : State) (c : StationConfig) (now : Instant) (w : Option Instant)

/-- The station with the window timer at an instant. -/
def State.windowAt (w : Option Instant) (s : State) : State := s.setCt { s.ct with window := w }

theorem State.timerCycleEnd_windowAt (hm : s.iu.image.isSome) : (s.windowAt w).timerCycleEnd c now = s.timerCycleEnd c now := by
  obtain ⟨m, hm⟩ := Option.isSome_iff_exists.1 hm
  have hm' : (s.windowAt w).iu.image = some m := hm
  have hopen : (s.windowAt w).openCycle c now false = s.openCycle c now false := by
    simp only [State.openCycle, hm, hm']
    rfl
  unfold State.timerCycleEnd
  rw [hopen]
  rfl

theorem State.ageHalf_windowAt : (s.windowAt w).ageHalf c = (s.ageHalf c).windowAt w := by
  unfold State.ageHalf
  have hdu : (s.windowAt w).du = s.du := rfl
  rw [hdu]
  split
  · dsimp only
    (repeat' split) <;> rfl
  · rfl

theorem State.countRefusedJoin_windowAt (refused : Bool) : (s.windowAt w).countRefusedJoin refused = (s.countRefusedJoin refused).windowAt w := by
  cases refused <;> rfl

theorem State.reportHalt_windowAt (change : HaltChange) : (s.windowAt w).reportHalt change = (s.reportHalt change).windowAt w := by
  cases change <;> rfl

theorem State.reportEpoch_windowAt (before after : Word16) :
    (s.windowAt w).reportEpoch before after = (s.reportEpoch before after).windowAt w := by
  unfold State.reportEpoch
  split <;> rfl

theorem State.staysMember_windowAt (m after : Image) (change : HaltChange) :
    (s.windowAt w).staysMember c now m after change = s.staysMember c now m after change := by
  have hset : ∀ x, (s.windowAt w).setIu x = (s.setIu x).windowAt w := fun _ => rfl
  unfold State.staysMember
  simp only [hset, State.reportEpoch_windowAt, State.reportHalt_windowAt]
  rw [State.timerCycleEnd_windowAt _ c now w (by simp)]
  rfl

theorem State.leftByLeave_windowAt : (s.windowAt w).leftByLeave = s.leftByLeave := rfl

theorem State.evicted_windowAt : (s.windowAt w).evicted c now = s.evicted c now := rfl

theorem State.memberCycleEnd_windowAt (m m' : Image) : (s.windowAt w).memberCycleEnd c now m m' = s.memberCycleEnd c now m m' := by
  have hiu : (s.windowAt w).iu = s.iu := rfl
  have hheard : (s.windowAt w).ct.heard = s.ct.heard := rfl
  unfold State.memberCycleEnd
  simp only [State.countRefusedJoin_windowAt, State.staysMember_windowAt, State.leftByLeave_windowAt, State.evicted_windowAt, hiu, hheard]

theorem State.enterFault_windowAt (reason : FaultReason) : (s.windowAt w).enterFault reason = s.enterFault reason := by
  by_cases hs : s.sc.state = .member
  · rw [State.enterFault_of_member hs, State.enterFault_of_member (s := s.windowAt w) hs]
    rfl
  · rw [State.enterFault_eq_of_not_member hs, State.enterFault_eq_of_not_member (s := s.windowAt w) hs]
    rfl

/-- A failed attempt leads off the trunk, where no window is open, or back to LISTEN. -/
theorem State.failAttempt_windowAt :
    (s.windowAt w).failAttempt c now = s.failAttempt c now ∨
      ((s.windowAt w).failAttempt c now = (s.failAttempt c now).windowAt w ∧ (s.failAttempt c now).sc.state = .listen ∧
        (s.failAttempt c now).iu = s.iu) := by
  by_cases hd : s.sc.departing = true
  · rw [State.failAttempt_departing c now hd, State.failAttempt_departing (s := s.windowAt w) c now hd]
    exact .inl rfl
  · have hd' : s.sc.departing = false := by simpa using hd
    rcases Nat.lt_or_ge s.sc.attempts 7 with hmore | hlast
    · rw [State.failAttempt_listens c now hd' hmore, State.failAttempt_listens (s := s.windowAt w) c now hd' hmore]
      exact .inr ⟨rfl, rfl, rfl⟩
    · rw [State.failAttempt_exhausted c now hd' hlast, State.failAttempt_exhausted (s := s.windowAt w) c now hd' hlast]
      exact .inl (State.enterFault_windowAt (s.setSc { s.sc with attempts := s.sc.attempts + 1 }) w .joinFailed)

theorem State.dropTracked_windowAt (hs : s.sc.state = .listen) : (s.windowAt w).dropTracked = s.dropTracked := by
  rw [State.dropTracked_of_listen hs, State.dropTracked_of_listen (s := s.windowAt w) hs]
  rfl

theorem State.trackedCycleEnd_windowAt (emptied : Bool) (m' : Image) (hm : s.iu.image.isSome)
    (hs : s.sc.state = .listen ∨ s.sc.state = .joining) :
    (s.windowAt w).trackedCycleEnd c now emptied m' = s.trackedCycleEnd c now emptied m' := by
  have hs' : (s.windowAt w).sc.state = .listen ∨ (s.windowAt w).sc.state = .joining := hs
  by_cases hfailed : s.sc.state = .joining ∧ (emptied = true ∨ m'.lists c.id = false)
  · rw [State.trackedCycleEnd_failed now hfailed.1 hfailed.2, State.trackedCycleEnd_failed (s := s.windowAt w) now hfailed.1 hfailed.2]
    rcases s.failAttempt_windowAt c now w with h | ⟨h, hlisten, hiu⟩
    · rw [h]
    · rw [h, State.dropTracked_windowAt _ w hlisten, State.timerCycleEnd_windowAt _ c now w (by rw [hiu]; exact hm),
        State.receiverOn_eq_true (s := (s.failAttempt c now).windowAt w) (.inl hlisten), State.receiverOn_eq_true (.inl hlisten)]
      rfl
  · cases emptied with
    | true =>
      have hlisten : s.sc.state = .listen := hs.resolve_right fun hj => hfailed ⟨hj, .inl rfl⟩
      rw [State.trackedCycleEnd_kept_emptied now hlisten rfl, State.trackedCycleEnd_kept_emptied (s := s.windowAt w) now hlisten rfl,
        State.dropTracked_windowAt _ w hlisten]
    | false =>
      have hkept : ¬ (s.sc.state = .joining ∧ m'.lists c.id = false) := fun h => hfailed ⟨h.1, .inr h.2⟩
      rw [State.trackedCycleEnd_kept now hs rfl hkept, State.trackedCycleEnd_kept (s := s.windowAt w) now hs' rfl hkept,
        State.timerCycleEnd_windowAt s c now w hm]

theorem State.cycleEnd_windowAt (hm : s.iu.image.isSome) (hon : s.receiverOn = true) :
    (s.windowAt w).cycleEnd c now = s.cycleEnd c now := by
  obtain ⟨m, hm⟩ := Option.isSome_iff_exists.1 hm
  by_cases hs : s.sc.state = .member
  · rw [State.cycleEnd_of_member hm hs c now, State.cycleEnd_of_member (s := s.windowAt w) hm hs c now, State.ageHalf_windowAt,
      State.memberCycleEnd_windowAt]
    rfl
  · have hs' : s.sc.state = .listen ∨ s.sc.state = .joining := by
      unfold State.receiverOn at hon
      split at hon <;> simp_all
    have hended : ∀ m', (s.windowAt w).trackedEnded c m' = (s.trackedEnded c m').windowAt w := fun m' => by
      simp only [State.trackedEnded, State.ageHalf_windowAt]
      rfl
    rw [State.cycleEnd_of_not_member hm hs, State.cycleEnd_of_not_member (s := s.windowAt w) hm hs, hended,
      State.trackedCycleEnd_windowAt _ c now w _ _ (by simp) (by simpa using hs')]
    rfl

theorem State.deliver_windowAt (origin : StationId) (r : Record) : (s.windowAt w).deliver origin r = (s.deliver origin r).windowAt w := by
  unfold State.deliver
  have hdu : (s.windowAt w).du = s.du := rfl
  rw [hdu]
  split
  · unfold State.placeIn
    rw [hdu]
    dsimp only
    split <;> rfl
  · rfl

theorem State.delivered_windowAt (origin : StationId) (records : List Record) :
    records.foldl (State.deliver origin) (s.windowAt w) = (records.foldl (State.deliver origin) s).windowAt w := by
  induction records generalizing s with
  | nil => rfl
  | cons r records ih =>
    simp only [List.foldl_cons, State.deliver_windowAt]
    exact ih _

end Window

/-! ### The window closes -/

/-- JOIN_WINDOW_TIMER_EXPIRY at the instant at which a frame closes the window (R31). -/
theorem exec_joinWindowTimerExpiry_windowAt {v : State} {c : StationConfig} (hc : v.cfg = some c) (hct : v.ct.state = .window)
    (hm : v.iu.image.isSome) (hon : v.receiverOn = true) (now : Instant) :
    exec .joinWindowTimerExpiry (v.windowAt (some now)) = .next (v.cycleEnd c now) := by
  rw [exec_joinWindowTimerExpiry (s := v.windowAt (some now)) hc hct rfl, State.cycleEnd_windowAt v c now _ hm hon]

/-- The accepted records of a frame that closes the window, and what comes before or after them (R162, log 13). -/
theorem State.closesWindowWith_of_closeWindow {s v : State} {c : StationConfig} {now : Instant} {line : List Bool} {origin : StationId}
    {records : List Record} (hc : v.cfg = some c) (hct : v.ct.state = .window) (hm : v.iu.image.isSome) (hon : v.receiverOn = true)
    (hend : exec (.frameEnd now line) s = .next (v.closeWindow c now origin records)) :
    s.closesWindowWith now line origin (records.filter (accepts c origin)) (v.windowAt (some now)) := by
  refine ⟨v.cycleEnd c now, exec_joinWindowTimerExpiry_windowAt hc hct hm hon now, fun hnothing => ?_, fun hrecords hfault => ?_⟩
  · have hnot : ¬ (records.any (accepts c origin) = true ∧ (v.cycleEnd c now).sc.state ≠ .fault) := by
      rintro ⟨hany, hon'⟩
      rcases hnothing with hnone | hfault
      · obtain ⟨r, hr, haccepts⟩ := List.any_eq_true.1 hany
        exact List.not_mem_nil (hnone ▸ List.mem_filter.2 ⟨hr, haccepts⟩)
      · exact hon' hfault
    rw [hend, State.closeWindow, if_neg hnot]
  · have hany : records.any (accepts c origin) = true := by
      obtain ⟨r, hr⟩ := List.exists_mem_of_ne_nil _ hrecords
      obtain ⟨hr, haccepts⟩ := List.mem_filter.1 hr
      exact List.any_eq_true.2 ⟨r, hr, haccepts⟩
    have hdrawn : (v.windowAt (some now)).setFree ((v.windowAt (some now)).free + 1) = (v.setFree (v.free + 1)).windowAt (some now) := rfl
    rw [hend, State.closeWindow, if_pos ⟨hany, hfault⟩, hdrawn]
    dsimp only
    split
    · refine .inl ?_
      rw [State.delivered_windowAt]
      refine (exec_joinWindowTimerExpiry_windowAt ?_ ?_ ?_ ?_ now).symm
      · exact (State.handOver_unchanged _ c origin records).2.2.2.2.2.2.2.2.2.2.2.1.trans hc
      · simpa using hct
      · simpa using hm
      · exact (State.receiverOn_congr (by simp)).trans hon
    · exact .inr ⟨_, exec_joinWindowTimerExpiry_windowAt (v := v.setFree (v.free + 1)) hc hct hm hon now, rfl⟩

/-- A station whose cycle end comes at once: its window is open, no frame of its own is ARMED and no LEAVE takes effect before it. -/
structure State.ReadyToClose (c : StationConfig) (v : State) : Prop where
  cfg : v.cfg = some c
  window : v.ct.state = .window
  image : v.iu.image.isSome
  on : v.receiverOn = true
  notArmed : v.ti.tx ≠ .armed
  settled : v.sc.deferredLeave = false ∨ v.ti.tx = .aborting

section Closing

variable {c : StationConfig} {now : Instant} {h : Handled} {s : State} {line : List Bool}

/-- A frame that closes the window moves no pointer and refreshes no frame; a LEAVE that waited for it comes before the cycle end (R31, R62). -/
theorem Handled.concluded_closing (htx : h.state.ti.tx ≠ .armed) :
    h.concluded c now true = h.state.takeDeferredLeave.finish c now true h.origin (h.state.judgedRecords h.records) := by
  simp only [Handled.concluded, State.settle_closing, State.refreshArmed_of_not_armed htx]

theorem State.takeDeferredLeave_settled {s : State} (hleave : s.sc.deferredLeave = false ∨ s.ti.tx = .aborting) : s.takeDeferredLeave = s := by
  rcases hleave with h | h <;> simp [State.takeDeferredLeave, h]

theorem State.finish_closing {s : State} (hct : s.ct.state = .window) (origin : StationId) (records : List Record) :
    s.finish c now true origin records = s.closeWindow c now origin records := by simp [State.finish, hct]

theorem State.closeWindow_nil (s : State) (origin : StationId) : s.closeWindow c now origin [] = s.cycleEnd c now := by
  simp [State.closeWindow]

theorem Handled.concluded_ready (hready : h.state.ReadyToClose c) :
    h.concluded c now true = h.state.closeWindow c now h.origin h.records := by
  rw [Handled.concluded_closing hready.notArmed, State.takeDeferredLeave_settled hready.settled, State.finish_closing hready.window]
  simp only [State.judgedRecords, hready.on, if_true]

/-- A frame that hands nothing on and closes the window: then comes what JOIN_WINDOW_TIMER_EXPIRY gives. -/
theorem Handled.concluded_ready_nil (hready : h.state.ReadyToClose c) (hrecords : h.records = []) :
    Host.Outcome.next (h.concluded c now true) = exec .joinWindowTimerExpiry (h.state.windowAt (some now)) := by
  rw [Handled.concluded_ready hready, hrecords, State.closeWindow_nil,
    exec_joinWindowTimerExpiry_windowAt hready.cfg hready.window hready.image hready.on]

theorem Handled.closesWindowWith (hready : h.state.ReadyToClose c) (hend : exec (.frameEnd now line) s = .next (h.concluded c now true)) :
    s.closesWindowWith now line h.origin (h.records.filter (accepts c h.origin)) (h.state.windowAt (some now)) := by
  rw [Handled.concluded_ready hready] at hend
  exact State.closesWindowWith_of_closeWindow hready.cfg hready.window hready.image hready.on hend

theorem State.ReadyToClose.congr {v u : State} (hready : v.ReadyToClose c) (hcfg : u.cfg = v.cfg) (hwindow : u.ct.state = v.ct.state)
    (himage : u.iu.image.isSome = v.iu.image.isSome) (hsc : u.sc = v.sc) (htx : u.ti.tx = v.ti.tx) : u.ReadyToClose c :=
  ⟨hcfg.trans hready.cfg, hwindow.trans hready.window, himage.trans hready.image,
    (State.receiverOn_congr (by rw [hsc])).trans hready.on, by rw [htx]; exact hready.notArmed, by rw [hsc, htx]; exact hready.settled⟩

end Closing
end Sys2Proof.Machine
end

section
/-! PROOF. Frames without a summary that end in the join window (R31, R50, R56, R69). -/

open Sys2Proof

namespace Sys2Proof.Machine

@[simp] theorem State.goDoubtful_image (s : State) : s.goDoubtful.iu.image = s.iu.image := by
  unfold State.goDoubtful
  split <;> rfl

/-- The trunk interface as its receiver leaves a frame, an ARMED JOIN given up (R50). -/
def TrunkInterface.pastFrame (t : TrunkInterface) : TrunkInterface :=
  if t.tx = .armed then { t.noFrame with receiving := none } else { t with receiving := none }

/-- No frame of its own is in flight that this frame end would end, and no LEAVE takes effect at it. -/
def State.quiet (s : State) : Prop :=
  (s.sc.deferredLeave = false ∧ (s.ti.tx = .idle ∨ (s.ti.tx = .armed ∧ ∃ digest, s.ti.frame = some (.join digest)))) ∨
    s.ti.tx = .aborting

section Quiet

variable {s : State} {c : StationConfig} (hquiet : s.quiet)
include hquiet

theorem State.outOfFrame_of_quiet : s.outOfFrame = s.setTi s.ti.pastFrame := by
  unfold TrunkInterface.pastFrame
  split
  next harmed =>
    rcases hquiet with ⟨-, hidle | ⟨-, hjoin⟩⟩ | habort
    · exact absurd (hidle.symm.trans harmed) (by simp)
    · exact State.outOfFrame_of_join harmed (State.holdsBeat_of_join hjoin)
    · exact absurd (habort.symm.trans harmed) (by simp)
  next hnot => exact State.outOfFrame_of_not_armed hnot

theorem State.quiet_pastFrame :
    s.ti.pastFrame.tx ≠ .armed ∧ (s.sc.deferredLeave = false ∨ s.ti.pastFrame.tx = .aborting) := by
  unfold TrunkInterface.pastFrame
  rcases hquiet with ⟨hleave, hidle | ⟨harmed, -⟩⟩ | habort
  · simp [hidle, hleave]
  · simp [harmed, hleave, TrunkInterface.noFrame]
  · simp [habort]

/-- The station as the frame that closes its window is classified. -/
theorem State.readyToClose_pastFrame (hc : s.cfg = some c) (hon : s.receiverOn = true) (hm : s.iu.image.isSome) (hct : s.ct.state = .window) :
    (s.setTi s.ti.pastFrame).ReadyToClose c :=
  ⟨hc, hct, hm, hon, (State.quiet_pastFrame hquiet).1, (State.quiet_pastFrame hquiet).2⟩

theorem exec_frameEnd_closing (hc : s.cfg = some c) (hon : s.receiverOn = true) (hr : s.ti.receiving = some true)
    (hct : s.ct.state = .window) (now : Instant) (line : List Bool) :
    exec (.frameEnd now line) s = .next (((s.setTi s.ti.pastFrame).classify c now true true line).concluded c now true) := by
  have hflight : s.ti.tx = .idle ∨ s.ti.tx = .armed ∨ s.ti.tx = .aborting := by
    rcases hquiet with ⟨-, h | ⟨h, -⟩⟩ | h <;> simp [h]
  rw [exec_frameEnd_heard hc hr hon hflight, State.outOfFrame_of_quiet hquiet, hct]
  rfl

end Quiet

/-! ### The own JOIN (R47, R69, R74) -/

/-- The LISTEN station whose JOIN was read back as sent. -/
def State.joinSent (c : StationConfig) (digest : Digest) (s : State) : State :=
  ((s.setTi s.ti.matched).setSc { s.sc with state := .joining, founding := none }).setIu
    { s.iu with marks := { s.iu.marks with join := some (c.id, digest) } }

theorem exec_frameEnd_ownJoin {s : State} {c : StationConfig} {digest : Digest} {line : List Bool} {inWindow : Bool} (hc : s.cfg = some c)
    (hs : s.sc.state = .listen) (hm : s.iu.image.isSome) (hr : s.ti.receiving = some inWindow)
    (ht : s.ti.tx = .arbitrating ∨ s.ti.tx = .sending) (hframe : s.ti.frame = some (.join digest))
    (hline : line = lineOf (withCrc (joinContent c.id digest))) (now : Instant) :
    exec (.frameEnd now line) s = .next (Handled.concluded c now (inWindow && s.ct.state == .window)
      { state := s.pastFrame.joinSent c digest, timing := .restart, origin := c.id, records := [] }) := by
  have hsent : s.sentLine c = some line := by simp [State.sentLine, State.ownBytes, hframe, hline]
  have hown : s.pastFrame.ownFrameEnd c =
      { state := s.pastFrame.joinSent c digest, timing := .restart, origin := c.id, records := [] } := by
    have hframe' : s.pastFrame.ti.frame = some (.join digest) := hframe
    simp only [State.ownFrameEnd, hframe', State.ownJoinEnd]
    rw [if_pos ⟨hs, hm⟩]
    rfl
  rw [exec_frameEnd_own hc hr (State.receiverOn_eq_true (.inl hs)) ht hsent, hown]

/-- Settles O46. -/
theorem frameEndInTheWindowIsTheCycleEnd : Obligations.FrameEndInTheWindowIsTheCycleEnd := by
  unfold Obligations.FrameEndInTheWindowIsTheCycleEnd
  intro s c m now line hc hon hm hct hr open' doubted saturated ended
  have himage : s.iu.image.isSome := by simp [hm]
  refine ⟨fun hquiet => ?_, fun digest hleave hs ht hframe hline => ?_⟩
  · have hquiet : s.quiet := hquiet
    have hready : (s.setTi ended).ReadyToClose c := State.readyToClose_pastFrame hquiet hc hon himage hct
    have hend : exec (.frameEnd now line) s = .next (((s.setTi ended).classify c now true true line).concluded c now true) :=
      exec_frameEnd_closing hquiet hc hon hr hct now line
    have hcounts : ended.errors = s.ti.errors ∧ ended.foreign = s.ti.foreign ∧ ended.inconsistent = s.ti.inconsistent := by
      simp only [ended]
      split <;> exact ⟨rfl, rfl, rfl⟩
    obtain ⟨herrors, hforeign, hinconsistent⟩ := hcounts
    refine ⟨fun hbroken => ?_, fun sender digest hline hother => ?_, fun b inRange hline hother hok => ?_,
      fun b hline hother hok hb => ⟨fun hlists => ?_, fun hlists => ?_⟩⟩
    · rw [hend, State.classify_broken now _ _ hbroken, Handled.concluded_ready_nil (hready.congr (by simp) (by simp) ?_ (by simp) ?_) rfl,
        State.receiveError_eq, State.setTi_ti, herrors]
      · rfl
      · simp [State.receiveError]
      · simp [State.receiveError_eq]
    · rw [hend, State.classify_join now _ _ hline hother]
      exact (Handled.concluded_ready_nil (h := (s.setTi ended).joinHeard sender digest true) (hready.congr rfl rfl rfl rfl rfl) rfl).trans rfl
    · rw [hend, State.classify_unsound now _ _ hline hother hok]
      cases hp : m.position b.sender with
      | some p =>
        have hlisted : (s.setTi ended).iu.image.bind (·.position b.sender) = some p := by simpa [hm] using hp
        rw [State.structureFailed_listed hlisted, if_pos (Image.lists_of_position hp), ← hinconsistent]
        exact (Handled.concluded_ready_nil (hready.congr rfl rfl rfl rfl rfl) rfl).trans rfl
      | none =>
        have hlisted : (s.setTi ended).iu.image.bind (·.position b.sender) = none := by simpa [hm] using hp
        have hnot : ¬ m.lists b.sender = true := fun h => by
          obtain ⟨p, hp'⟩ := Image.position_of_lists h
          rw [hp] at hp'
          cases hp'
        rw [State.structureFailed_unlisted hlisted, if_neg hnot, ← hinconsistent]
        exact (Handled.concluded_ready_nil (hready.congr rfl rfl rfl rfl rfl) rfl).trans rfl
    · rw [hend, State.classify_sound now _ _ hline hother hok,
        State.soundBeat_plain_foreign (s := s.setTi ended) now true hb hm (Image.position_of_not_lists hlists), ← hforeign]
      exact (Handled.concluded_ready_nil (hready.congr rfl rfl rfl rfl rfl) rfl).trans rfl
    · obtain ⟨p, hp⟩ := Image.position_of_lists hlists
      have hdoubted : b.doubted m (s.setTi ended).ct := .inr (.inr (by simp [CycleTimer.positionPassed, hct]))
      have hu : (s.setTi ended).listedBeat c m p .ignored b =
          (s.setTi { ended with inconsistent := saturated s.ti.inconsistent }).setIu doubted := by
        have hdoubt : doubted = { s.iu with certainty := if s.sc.state = .member then some .doubtful else s.iu.certainty } := by
          simp only [doubted]
          split <;> rfl
        rw [State.listedBeat_doubted hdoubted, State.countInconsistent_goDoubtful_eq, State.setTi_ti, hinconsistent, hdoubt]
        rfl
      rw [State.classify_sound now _ _ hline hother hok, State.soundBeat_plain (s := s.setTi ended) now true hb hm hp, hu] at hend
      have hkept : doubted.image.isSome = s.iu.image.isSome := by
        simp only [doubted]
        split <;> rfl
      exact Handled.closesWindowWith
        (h := { state := ((s.setTi { ended with inconsistent := saturated s.ti.inconsistent }).setIu doubted).hear b.sender,
                timing := .listed p, origin := b.sender, records := b.records })
        (hready.congr rfl rfl hkept rfl rfl) hend
  · rw [exec_frameEnd_ownJoin hc hs himage hr ht hframe hline, hct]
    refine (Handled.concluded_ready_nil (h := { state := s.pastFrame.joinSent c digest, timing := .restart, origin := c.id, records := [] })
      ⟨hc, hct, himage, State.receiverOn_eq_true (.inr rfl), nofun, .inl hleave⟩ rfl).trans rfl

end Sys2Proof.Machine
end

section
/-! PROOF. LEAVE, row by row of R62, and the LEAVE that waits for the own JOIN on the line. -/

open Sys2Proof

namespace Sys2Proof.Machine

/-! ### The rows of R62 -/

section Rows

variable {s : State}

theorem State.takeLeaveCommand_loading_or_fault (h : s.sc.state = .loading ∨ s.sc.state = .fault) :
    s.takeLeaveCommand = s.respond .wrongState [] := by
  rcases h with h | h <;> simp only [State.takeLeaveCommand, h]

theorem State.takeLeaveCommand_idle (h : s.sc.state = .idle) : s.takeLeaveCommand = s.respond .already [] := by
  simp only [State.takeLeaveCommand, h]

theorem State.takeLeaveCommand_departing (h : s.sc.state = .joining ∨ s.sc.state = .member) (hd : s.sc.departing = true) :
    s.takeLeaveCommand = s.respond .already [] := by
  rcases h with h | h <;> simp only [State.takeLeaveCommand, h, hd, if_true]

theorem State.takeLeave_joining_or_member (h : s.sc.state = .joining ∨ s.sc.state = .member) :
    s.takeLeave = s.setSc { s.sc with departing := true, joiningWanted := false, deferredLeave := false } := by
  rcases h with h | h <;> simp only [State.takeLeave, h]

theorem State.takeLeaveCommand_departs (h : s.sc.state = .joining ∨ s.sc.state = .member) (hd : s.sc.departing = false) :
    s.takeLeaveCommand = s.takeLeave.respond .done [] := by
  rcases h with h | h <;> simp only [State.takeLeaveCommand, h, hd, Bool.false_eq_true, if_false]

theorem State.joinOnLine_of_sendsJoin (h : s.sendsJoin) : s.joinOnLine = true := by
  obtain ⟨hframe, htx⟩ := h
  rcases htx with htx | htx | htx <;> simp [State.joinOnLine, State.holdsBeat_of_join hframe, htx]

/-- A transmitter that is IDLE, or that holds a frame, sends a JOIN or none. -/
theorem State.joinOnLine_of_not_sendsJoin (h : ¬ s.sendsJoin) (hframe : s.ti.tx = .idle ∨ s.ti.frame.isSome) : s.joinOnLine = false := by
  by_contra hline
  have hline : s.joinOnLine = true := by simpa using hline
  unfold State.joinOnLine at hline
  cases htx : s.ti.tx with
  | idle => simp [htx] at hline
  | armed => simp [htx] at hline
  | arbitrating | sending | aborting =>
    obtain ⟨frame, hf⟩ := Option.isSome_iff_exists.1 (hframe.resolve_left (by simp [htx]))
    cases frame with
    | join digest => exact h ⟨⟨digest, hf⟩, by simp [htx]⟩
    | beat d e y p i k m => simp [State.holdsBeat_of_beat ⟨d, e, y, p, i, k, m, hf⟩] at hline

theorem State.takeLeaveCommand_deferred (h : s.sc.state = .listen) (hline : s.joinOnLine = true) :
    s.takeLeaveCommand = (s.setSc { s.sc with deferredLeave := true }).respond .done [] := by
  simp only [State.takeLeaveCommand, h, hline, if_true]

theorem State.takeLeaveCommand_listen (h : s.sc.state = .listen) (hline : s.joinOnLine = false) :
    s.takeLeaveCommand = ((s.setSc { s.sc with joiningWanted := false }).enterIdle).respond .done [] := by
  simp only [State.takeLeaveCommand, h, hline, Bool.false_eq_true, if_false, State.takeLeave]

end Rows

/-! ### What a frame end leaves at a LISTEN station -/

/-- What no frame of another id changes at a LISTEN station. -/
structure State.ListensOn (s u : State) : Prop where
  sc : u.sc = s.sc
  cb : u.cb = s.cb
  rt : u.rt = s.rt
  sq : u.sq = s.sq
  rm : u.rm = s.rm
  halt : u.halt = s.halt
  du : u.du = s.du
  tx : u.ti.tx = s.ti.tx

section ListensOn

variable {s u : State} {c : StationConfig} (now : Instant) (closing inWindow : Bool) {line : List Bool}

theorem State.ListensOn.listedBeat (h : s.ListensOn u) (m : Image) (p : Nat) (outcome : SummaryOutcome) (b : Beat) :
    s.ListensOn (u.listedBeat c m p outcome b) := by
  have htx : (u.listedBeat c m p outcome b).ti.tx = u.ti.tx := by
    unfold State.listedBeat
    dsimp only
    (repeat' split) <;> simp [State.countInconsistent]
  refine ⟨?_, ?_, ?_, ?_, ?_, ?_, ?_, htx.trans h.tx⟩ <;> simp [h.sc, h.cb, h.rt, h.sq, h.rm, h.halt, h.du]

theorem State.ListensOn.summaryStep (hs : s.sc.state = .listen) (b : Beat) : s.ListensOn (s.summaryStep c now closing b).1 := by
  cases hb : b.summary with
  | none =>
    rw [State.summaryStep_none hb]
    exact ⟨rfl, rfl, rfl, rfl, rfl, rfl, rfl, rfl⟩
  | some x =>
    have htake : s.takeSummary c now closing b.sender x =
        (s.trackSummary c now closing (s.listsSender b.sender) b.sender x, .taken) := by simp [State.takeSummary, hs]
    rw [State.summaryStep_some hb, htake]
    refine ⟨?_, ?_, ?_, ?_, ?_, ?_, ?_, ?_⟩ <;> simp

theorem State.ListensOn.soundBeat (hs : s.sc.state = .listen) (b : Beat) : s.ListensOn (s.soundBeat c now closing b).state := by
  rcases hstep : s.summaryStep c now closing b with ⟨u, outcome⟩
  have hu : s.ListensOn u := by simpa [hstep] using State.ListensOn.summaryStep (c := c) now closing hs b
  cases hm : u.iu.image with
  | none => rwa [State.soundBeat_unplaced hstep hm]
  | some m =>
    cases hp : m.position b.sender with
    | none =>
      rw [State.soundBeat_foreign hstep hm hp]
      refine ⟨?_, ?_, ?_, ?_, ?_, ?_, ?_, ?_⟩ <;> simp [hu.sc, hu.cb, hu.rt, hu.sq, hu.rm, hu.halt, hu.du, hu.tx]
    | some p =>
      rw [State.soundBeat_listed hstep hm hp]
      have hlisted := hu.listedBeat (c := c) m p outcome b
      exact ⟨hlisted.sc, hlisted.cb, hlisted.rt, hlisted.sq, hlisted.rm, hlisted.halt, hlisted.du, hlisted.tx⟩

theorem State.ListensOn.classify (hs : s.sc.state = .listen)
    (hbeat : ∀ b inRange, receiveLine line = .whole (.beat b inRange) true → b.sender ≠ c.id)
    (hjoin : ∀ sender digest, receiveLine line = .whole (.join sender digest) true → sender ≠ c.id) :
    s.ListensOn (s.classify c now closing inWindow line).state := by
  cases hline : receiveLine line with
  | cutShort =>
    rw [State.classify_broken now _ _ (.inl hline)]
    refine ⟨?_, ?_, ?_, ?_, ?_, ?_, ?_, ?_⟩ <;> simp [State.receiveError_eq]
  | whole frame crcOk =>
    cases crcOk with
    | false =>
      rw [State.classify_broken now _ _ (.inr ⟨frame, hline⟩)]
      refine ⟨?_, ?_, ?_, ?_, ?_, ?_, ?_, ?_⟩ <;> simp [State.receiveError_eq]
    | true =>
      cases frame with
      | join sender digest =>
        rw [State.classify_join now _ _ hline (hjoin sender digest hline)]
        refine ⟨?_, ?_, ?_, ?_, ?_, ?_, ?_, ?_⟩
        iterate 7 simp
        unfold State.joinHeard
        split <;> rfl
      | beat b inRange =>
        cases hok : b.structureOk c inRange with
        | false =>
          rw [State.classify_unsound now _ _ hline (hbeat b inRange hline) hok]
          refine ⟨?_, ?_, ?_, ?_, ?_, ?_, ?_, ?_⟩
          iterate 7 simp
          unfold State.structureFailed
          dsimp only
          split <;> rfl
        | true =>
          rw [State.classify_sound now _ _ hline (hbeat b inRange hline) hok]
          exact State.ListensOn.soundBeat now closing hs b

end ListensOn

/-- A LEAVE that waited at a LISTEN station takes effect at the end of a frame: IDLE, with no cycle end, the records of the frame handed on (R62). -/
theorem Handled.concluded_leaves {h : Handled} {c : StationConfig} {now : Instant} (hs : h.state.sc.state = .listen)
    (hleave : h.state.sc.deferredLeave = true) (htx : h.state.ti.tx = .idle) :
    h.concluded c now true =
      ((h.state.setSc { h.state.sc with joiningWanted := false }).enterIdle).handOver c h.origin h.records := by
  rw [Handled.concluded_closing (by simp [htx]), State.takeDeferredLeave_listen hs hleave (by simp [htx])]
  simp only [State.judgedRecords, State.receiverOn_eq_true (.inl hs), if_true]
  exact if_neg (by rintro ⟨-, h⟩; cases h)

/-- Settles O16. -/
theorem leaveCommandByState : Obligations.LeaveCommandByState := by
  refine ⟨fun s hfree => ?_, fun s c m now line hc hs hleave hm hct hr => ⟨fun digest ht hframe hline => ?_, fun ht hbeat hjoin => ?_⟩⟩
  · rw [exec_leave_of_portFree hfree]
    refine ⟨fun h => ?_, fun h => ?_, fun h hd => ?_, fun h hd => ?_, fun h hsends => ?_, fun h hsends hframe => ?_⟩
    · rw [State.takeLeaveCommand_loading_or_fault h]; rfl
    · rw [State.takeLeaveCommand_idle h]; rfl
    · rw [State.takeLeaveCommand_departing h hd]; rfl
    · rw [State.takeLeaveCommand_departs h hd, State.takeLeave_joining_or_member h]; rfl
    · rw [State.takeLeaveCommand_deferred h (State.joinOnLine_of_sendsJoin hsends)]; rfl
    · rw [State.takeLeaveCommand_listen h (State.joinOnLine_of_not_sendsJoin hsends hframe)]
      exact ⟨_, rfl, rfl, rfl, rfl, rfl, rfl, rfl, rfl, rfl, rfl, rfl, rfl, rfl, rfl, rfl, rfl, rfl, rfl, rfl⟩
  · have himage : s.iu.image.isSome := by simp [hm]
    obtain ⟨v, hv⟩ : ∃ v, v = s.pastFrame.joinSent c digest := ⟨_, rfl⟩
    obtain ⟨w, hw⟩ : ∃ w, w = v.setSc { v.sc with departing := true, joiningWanted := false, deferredLeave := false } := ⟨_, rfl⟩
    have hdeferred : v.takeDeferredLeave = w := by
      rw [State.takeDeferredLeave, if_pos ⟨by rw [hv]; exact hleave, by rw [hv]; exact nofun⟩,
        State.takeLeave_joining_or_member (.inl (by rw [hv]; rfl)), hw]
    have hwindow : w.ct.state = .window := by rw [hw, hv]; exact hct
    have hjoining : w.sc.state = .joining := by rw [hw, hv]; rfl
    rw [exec_frameEnd_ownJoin hc hs himage hr ht hframe hline, hct, ← hv]
    simp only [beq_self_eq_true, Bool.and_true]
    rw [Handled.concluded_closing (by rw [hv]; exact nofun), hdeferred]
    simp only [State.judgedRecords, ite_self]
    rw [State.finish_closing hwindow, State.closeWindow_nil,
      ← exec_joinWindowTimerExpiry_windowAt (by rw [hw, hv]; exact hc) hwindow (by rw [hw, hv]; exact himage)
        (State.receiverOn_eq_true (.inr hjoining)), hw, hv]
    rfl
  · obtain ⟨h, hh⟩ : ∃ h, h = s.pastFrame.classify c now true true line := ⟨_, rfl⟩
    have hlistens : s.pastFrame.ListensOn h.state := by
      rw [hh]
      exact State.ListensOn.classify now true true hs hbeat hjoin
    have hsc : h.state.sc = s.sc := hlistens.sc
    have hend : exec (.frameEnd now line) s =
        .next (((h.state.setSc { h.state.sc with joiningWanted := false }).enterIdle).handOver c h.origin h.records) := by
      rw [exec_frameEnd_heard hc hr (State.receiverOn_eq_true (.inl hs)) (.inl ht), hct, State.outOfFrame_of_not_armed (by simp [ht])]
      simp only [beq_self_eq_true, Bool.and_true]
      rw [← hh, Handled.concluded_leaves (by rw [hsc]; exact hs) (by rw [hsc]; exact hleave) (hlistens.tx.trans ht)]
    refine ⟨_, hend, ?_, ?_, ?_, ?_, ?_, ?_, ?_, ?_, ?_, ?_, ?_, fun hnothing => ?_, fun b hline hok hb => ?_⟩
    · rw [← hsc]; simp [State.enterIdle]
    · simp [State.enterIdle, State.offTrunk]
    · simp [State.enterIdle, State.offTrunk]
    · simp [State.enterIdle, State.offTrunk, TrunkInterface.noFrame]
    · simp [State.enterIdle, State.offTrunk, TrunkInterface.noFrame]
    · simp [State.enterIdle, State.offTrunk]
    · simpa using hlistens.cb
    · simpa using hlistens.rt
    · simpa using hlistens.sq
    · simpa using hlistens.rm
    · simpa using hlistens.halt
    · have hrecords : h.records = [] := by
        rw [hh]
        rcases hnothing with hcut | hbad | ⟨i, digest, hline⟩
        · rw [State.classify_broken now _ _ (.inl hcut)]
        · rw [State.classify_broken now _ _ (.inr hbad)]
        · rw [State.classify_join now _ _ hline (hjoin i digest hline)]
          rfl
      rw [hrecords, State.handOver_nil]
      simpa using hlistens.du
    · have hclass := State.classify_sound (s := s.pastFrame) now true true hline (hbeat b true hline) hok
      refine ⟨fun hlists => ?_, fun hlists => ?_⟩
      · obtain ⟨p, hp⟩ := Image.position_of_lists hlists
        have hrecords : h.origin = b.sender ∧ h.records = b.records := by
          rw [hh, hclass, State.soundBeat_plain (s := s.pastFrame) now true hb hm hp]
          exact ⟨rfl, rfl⟩
        rw [hrecords.1, hrecords.2]
        exact State.handOver_du_congr (by simpa using hlistens.du) c b.sender b.records
      · have hrecords : h.records = [] := by
          rw [hh, hclass, State.soundBeat_plain_foreign (s := s.pastFrame) now true hb hm (Image.position_of_not_lists hlists)]
        rw [hrecords, State.handOver_nil]
        simpa using hlistens.du

end Sys2Proof.Machine
end

section
/-! PROOF. What a summary does to the station that takes it: the timing of R37 and R38, the image, and the reports (R10 to R12, R16, R18, R83, R127, R140). -/

open Sys2Proof

namespace Sys2Proof.Machine

/-! ### The timing from a summary -/

section Congruence

variable {t t' before : CycleTimer} {c : StationConfig} {x : Image} {now : Instant} {suppressed : Bool}

/-- The CT keeps what a summary sets in it but for pointer, timers and heard set. -/
structure CycleTimer.KeepsTiming (t t' : CycleTimer) : Prop where
  plan : t'.plan = t.plan
  mark : t'.mark = t.mark
  nextOpening : t'.nextOpening = t.nextOpening
  phaseTaken : t'.phaseTaken = t.phaseTaken
  summarySeen : t'.summarySeen = t.summarySeen
  nextPhase : t'.nextPhase = t.nextPhase

theorem CycleTimer.refixed.keeps (h : t.refixed before c x now suppressed) (hkept : t.KeepsTiming t') :
    t'.refixed before c x now suppressed := by
  simpa only [CycleTimer.refixed, CycleTimer.plannedBy, hkept.plan, hkept.mark, hkept.nextOpening, hkept.phaseTaken, hkept.summarySeen,
    hkept.nextPhase] using h

theorem CycleTimer.takenUp.keeps {sender : StationId} {q : Nat} (h : t.takenUp c x sender q suppressed) (hkept : t.KeepsTiming t')
    (hheard : t'.heard = t.heard) : t'.takenUp c x sender q suppressed := by
  simpa only [CycleTimer.takenUp, CycleTimer.plannedBy, hkept.plan, hkept.mark, hkept.nextOpening, hkept.phaseTaken, hkept.summarySeen,
    hkept.nextPhase, hheard] using h

theorem CycleTimer.plannedBy.members (h : t.plannedBy c x suppressed) : t.members = x.roster.length := by
  rw [CycleTimer.members, h]

theorem CycleTimer.plannedBy.position (h : t.plannedBy c x suppressed) : t.position = x.position c.id := by
  rw [CycleTimer.position, h]
  rfl

theorem CycleTimer.movedTo_keepsTiming (t : CycleTimer) (c : StationConfig) (receiving : Option Bool) (now : Instant) (p : Nat) :
    t.KeepsTiming (t.movedTo c receiving now p) := by
  obtain ⟨-, -, hseen, hmark, hopening, hplan, hphase, htaken⟩ := t.movedTo_kept c receiving now p
  exact ⟨hplan, hmark, hopening, htaken, hseen, hphase⟩

end Congruence

/-- The CT with an id in its heard set. -/
def CycleTimer.hears (t : CycleTimer) (i : StationId) : CycleTimer := { t with heard := IdSet.add t.heard i }

/-- What a summary whose sender stands at position `q` in it leaves in the CT: where the sender was known, what R37 leaves, and otherwise, once the sender is heard, what R38 leaves. -/
structure CycleTimer.TimedBy (t before : CycleTimer) (c : StationConfig) (x : Image) (now : Instant) (closing : Bool) (sender : StationId)
    (q : Nat) (suppressed : Bool) (known : Prop) : Prop where
  pointer : t.pointer = if closing then x.roster.length else q + 1
  planned : t.plannedBy c x suppressed
  seen : t.summarySeen = true
  state : (known → t.state = before.state) ∧ (¬ known → t.state = if closing then .window else .slots)
  kept : known → t.refixed before c x now suppressed ∧ t.heard = before.heard
  fresh : ¬ known → (t.hears sender).takenUp c x sender q suppressed

section Timing

variable {s : State} {c : StationConfig} {x : Image} {sender : StationId} {q : Nat} (hq : x.position sender = some q) (now : Instant)
  (closing suppressed : Bool)
include hq

theorem State.adoptTiming_timedBy {known : Prop} (hknown : known) :
    (s.adoptTiming c now closing suppressed sender x).ct.TimedBy s.ct c x now closing sender q suppressed known := by
  have hrefixed := s.adoptTiming_refixed c now closing suppressed sender x
  refine ⟨?_, hrefixed.1, by simp [State.adoptTiming], ⟨fun _ => by simp, fun h => absurd hknown h⟩, fun _ => ⟨hrefixed, ?_⟩,
    fun h => absurd hknown h⟩ <;> simp [State.adoptTiming, State.senderPosition, hq]

theorem State.takeUpTiming_timedBy {before : CycleTimer} {known : Prop} (hknown : ¬ known) :
    (s.takeUpTiming c closing suppressed sender x).ct.TimedBy before c x now closing sender q suppressed known := by
  have htaken := s.takeUpTiming_takenUp c closing suppressed hq
  refine ⟨?_, htaken.1, by simp [State.takeUpTiming], ⟨fun h => absurd h hknown, fun _ => ?_⟩, fun h => absurd h hknown, fun _ => htaken⟩ <;>
    simp [State.takeUpTiming, State.senderPosition, hq]

theorem State.trackTiming_timedBy (known : Bool) :
    (s.trackTiming c now closing suppressed known sender x).ct.TimedBy s.ct c x now closing sender q suppressed
      (known = true ∧ s.ct.state ≠ .untimed) := by
  unfold State.trackTiming
  split
  next h => exact State.adoptTiming_timedBy hq now closing suppressed h
  next h => exact State.takeUpTiming_timedBy hq now closing suppressed h

end Timing

section Moved

variable {t before : CycleTimer} {c : StationConfig} {x : Image} {now : Instant} {closing : Bool} {sender : StationId} {q : Nat}
  {suppressed : Bool} {known : Prop}

theorem CycleTimer.hears_keepsTiming (t : CycleTimer) (i : StationId) : t.KeepsTiming (t.hears i) := ⟨rfl, rfl, rfl, rfl, rfl, rfl⟩

/-- What the summary left in the CT still stands once the sender is heard, whatever becomes of pointer and timers. -/
theorem CycleTimer.TimedBy.after (h : t.TimedBy before c x now closing sender q suppressed known) {t' : CycleTimer}
    (hkept : (t.hears sender).KeepsTiming t') (hheard : t'.heard = (t.hears sender).heard) :
    (known → t'.refixed before c x now suppressed ∧ t'.heard = IdSet.add before.heard sender) ∧
      (¬ known → t'.takenUp c x sender q suppressed) ∧ t'.summarySeen = true ∧ t'.plannedBy c x suppressed := by
  refine ⟨fun hknown => ?_, fun hknown => (h.fresh hknown).keeps hkept hheard, hkept.summarySeen.trans h.seen, hkept.plan.trans h.planned⟩
  obtain ⟨hrefixed, hbefore⟩ := h.kept hknown
  refine ⟨(hrefixed.keeps (t.hears_keepsTiming sender)).keeps hkept, ?_⟩
  rw [hheard, CycleTimer.hears, hbefore]

end Moved

/-! ### Reports -/

section Reports

variable {s t u : State} {c : StationConfig} {own : StationId} {x : Image}

/-- The image's group is halting or halted: it takes no request. -/
def Image.halting (m : Image) : Prop := m.gather.isSome ∨ m.run = .halted

/-- On the way from `s` to `t` no event flag was cleared; and no request was refused where the group of the summary was halting. -/
structure State.KeepsReportsOf (x : Image) (s t : State) : Prop where
  flag : ∀ f, s.flag f = true → t.flag f = true
  lastRefusal : x.halting → t.cp.lastRefusal = s.cp.lastRefusal

theorem State.KeepsReports.keepsReportsOf (h : s.KeepsReports t) : s.KeepsReportsOf x t := ⟨h.flag, fun _ => h.lastRefusal⟩

theorem State.KeepsReportsOf.trans (h : s.KeepsReportsOf x t) (h' : t.KeepsReportsOf x u) : s.KeepsReportsOf x u :=
  ⟨fun f hf => h'.flag f (h.flag f hf), fun hx => (h'.lastRefusal hx).trans (h.lastRefusal hx)⟩

theorem State.reportsDivergence.keeps (h : t.reportsDivergence s own x) (hkept : t.KeepsReportsOf x u) : u.reportsDivergence s own x := by
  refine ⟨fun hcopy => hkept.flag _ (h.1 hcopy), fun k r hk hr hx hhalting => ?_⟩
  obtain ⟨hflag, hrefusal⟩ := h.2 k r hk hr hx hhalting
  exact ⟨hkept.flag _ hflag, (hkept.lastRefusal hhalting).trans hrefusal⟩

theorem State.reportsAdoption.keeps (h : t.reportsAdoption s own x) (hkept : t.KeepsReportsOf x u) (hhalt : u.halt = t.halt) :
    u.reportsAdoption s own x := by
  refine ⟨h.1.keeps hkept, fun k hk => ?_⟩
  obtain ⟨hroster, hdraining, hhalted, hresumed, hsame⟩ := h.2 k hk
  rw [hhalt]
  exact ⟨fun he => hkept.flag _ (hroster he), fun hg hg' => hkept.flag _ (hdraining hg hg'),
    fun hr hr' => ⟨(hhalted hr hr').1, hkept.flag _ (hhalted hr hr').2⟩,
    fun hr hr' => ⟨(hresumed hr hr').1, hkept.flag _ (hresumed hr hr').2⟩, hsame⟩

theorem State.reportLostRequest_keepsFlags (s : State) (own : StationId) (k x : Image) (f : EventFlag) (h : s.flag f = true) :
    (s.reportLostRequest own k x).flag f = true := by
  unfold State.reportLostRequest
  (repeat' split)
  · exact State.flag_raise_of_flag .refused f h
  · exact h
  · exact h

/-- R16, R127: what an adoption reports whether or not the summary lists the station. -/
theorem State.reportDiverged_reports (hcopy : s.iu.copy = u.iu.copy) :
    (t.reportDiverged own s.iu.copy x).reportsDivergence u own x := by
  rw [hcopy]
  refine ⟨fun hne => ?_, fun k r hk hr hx hhalting => ?_⟩
  · cases hk : u.iu.copy with
    | none => exact State.flag_raise_self _ _
    | some k =>
      have hne' : k ≠ x := fun h => hne (by rw [hk, h])
      simp only [State.reportDiverged, if_neg hne']
      exact State.reportLostRequest_keepsFlags _ own k x _ (State.flag_raise_self _ _)
  · have hne : k ≠ x := fun h => by rw [h, hx] at hr; cases hr
    simp only [hk, State.reportDiverged, if_neg hne, State.reportLostRequest, hr]
    rw [if_pos ⟨by rw [hx]; rfl, hhalting⟩]
    exact ⟨State.flag_raise_self _ _, rfl⟩

theorem State.KeepsReports.reportEpoch (s : State) (before after : Word16) : s.KeepsReports (s.reportEpoch before after) := by
  unfold State.reportEpoch
  split
  · exact .refl s
  · exact (State.KeepsReports.refl s).raise _

theorem State.reportHaltAdopted_spec (s : State) (k x : Image) :
    s.KeepsReports (s.reportHaltAdopted k x) ∧
      (k.gather = none → x.gather.isSome → (s.reportHaltAdopted k x).flag .draining = true) ∧
      (k.run = .running → x.run = .halted →
        (s.reportHaltAdopted k x).halt = { outcome := .adopted, unacked := 0 } ∧ (s.reportHaltAdopted k x).flag .halted = true) ∧
      (k.run = .halted → x.run = .running →
        (s.reportHaltAdopted k x).halt = { outcome := .none, unacked := 0 } ∧ (s.reportHaltAdopted k x).flag .resumed = true) ∧
      (k.run = x.run → (s.reportHaltAdopted k x).halt = s.halt) := by
  obtain ⟨u, hu⟩ : ∃ u, u = if k.gather.isNone ∧ x.gather.isSome then s.raise .draining else s := ⟨_, rfl⟩
  have hkept : s.KeepsReports u := by
    rw [hu]
    split
    · exact (State.KeepsReports.refl s).raise _
    · exact .refl s
  have hdraining : k.gather = none → x.gather.isSome → u.flag .draining = true := fun hk hx => by
    rw [hu, if_pos ⟨by simp [hk], hx⟩]
    exact State.flag_raise_self _ _
  have hhalt : u.halt = s.halt := by
    rw [hu]
    split <;> simp
  have hmatch : s.reportHaltAdopted k x = match k.run, x.run with
      | .running, .halted => (u.setHalt { outcome := .adopted, unacked := 0 }).raise .halted
      | .halted, .running => (u.setHalt .empty).raise .resumed
      | .running, .running | .halted, .halted => u := by rw [hu]; rfl
  have hset : ∀ h f, u.KeepsReports ((u.setHalt h).raise f) := fun h f => State.KeepsReports.raised (s := u) (t := u.setHalt h) rfl f
  rw [hmatch]
  cases hk : k.run <;> cases hx : x.run
  · exact ⟨hkept, hdraining, nofun, nofun, fun _ => hhalt⟩
  · exact ⟨hkept.trans (hset _ _), fun h h' => (hset _ _).flag _ (hdraining h h'), fun _ _ => ⟨rfl, State.flag_raise_self _ _⟩, nofun, nofun⟩
  · exact ⟨hkept.trans (hset _ _), fun h h' => (hset _ _).flag _ (hdraining h h'), nofun, fun _ _ => ⟨rfl, State.flag_raise_self _ _⟩, nofun⟩
  · exact ⟨hkept, hdraining, nofun, nofun, fun _ => hhalt⟩

/-- R140, R173: what an adoption reports at a station that stays MEMBER. -/
theorem State.reportAdopted_reports {v : State} (h : u.reportsDivergence s own x) (hhalt : u.halt = s.halt) (hcopy : v.iu.copy = s.iu.copy) :
    (u.reportAdopted v.iu.copy x).reportsAdoption s own x := by
  rw [hcopy]
  cases hk : s.iu.copy with
  | none => exact ⟨h, fun k hk' => by rw [hk] at hk'; cases hk'⟩
  | some k =>
    obtain ⟨hkept, hdraining, hhalted, hresumed, hsame⟩ := (u.reportEpoch k.epoch x.epoch).reportHaltAdopted_spec k x
    have hepoch := State.KeepsReports.reportEpoch u k.epoch x.epoch
    refine ⟨h.keeps (hepoch.trans hkept).keepsReportsOf, fun k' hk' => ?_⟩
    rw [hk] at hk'
    cases hk'
    refine ⟨fun he => hkept.flag _ (State.reportEpoch_flag (Ne.symm he) u), hdraining, hhalted, hresumed, fun hrun => ?_⟩
    exact (hsame hrun).trans (by simpa using hhalt)

end Reports

end Sys2Proof.Machine
end

section
/-! PROOF. The summary step of R54, outcome by outcome, and the header check and the items after it (R55). -/

open Sys2Proof

namespace Sys2Proof.Machine

/-! ### A departure for LISTEN -/

/-- A MEMBER leaves its group for LISTEN, the summary its tracked image (R18, R81, R83). -/
def State.departs (c : StationConfig) (now : Instant) (removal : Removal) (holdoff : Option Instant) (x : Image) (s : State) : State :=
  ((s.leaveMember.setSc { s.leaveMember.sc with removal := some removal, holdoff := holdoff }).raise .removed).listenTracking c now x

section Departs

variable {s : State} (c : StationConfig) (now : Instant) (removal : Removal) (holdoff : Option Instant) (x : Image)

theorem State.KeepsReports.departs (s : State) : s.KeepsReports (s.departs c now removal holdoff x) := by
  unfold State.departs
  have hcp : (s.leaveMember.setSc { s.leaveMember.sc with removal := some removal, holdoff := holdoff }).cp = s.cp := by simp
  generalize s.leaveMember.setSc { s.leaveMember.sc with removal := some removal, holdoff := holdoff } = u at hcp ⊢
  exact (State.KeepsReports.raised hcp .removed).trans (.of_cp (by simp))

theorem State.departs_spec (s : State) :
    (s.departs c now removal holdoff x).iu = { image := some x, copy := none, certainty := none, marks := .empty } ∧
      (s.departs c now removal holdoff x).ct = s.ct ∧ (s.departs c now removal holdoff x).departedFrom s ∧
      (s.departs c now removal holdoff x).ti = s.ti.dropArmed ∧
      (s.departs c now removal holdoff x).sc = { s.sc with
        state := .listen, departing := false, removal := some removal, holdoff := holdoff,
        founding := some (now + (4 + c.id.val) * (c.period * unitsPerMicrosecond)) } ∧
      (s.departs c now removal holdoff x).flag .removed = true := by
  refine ⟨rfl, rfl, ⟨⟨rfl, rfl, rfl, rfl, rfl, rfl⟩, rfl, rfl, rfl, rfl⟩, rfl, rfl, ?_⟩
  exact State.flag_raise_self .removed (s.leaveMember.setSc { s.leaveMember.sc with removal := some removal, holdoff := holdoff })

end Departs

/-! ### The outcomes -/

theorem State.departedFrom.congr {u s s' : State} (h : u.departedFrom s) (hcb : s'.cb = s.cb) (hsq : s'.sq = s.sq) (hdu : s'.du = s.du) :
    u.departedFrom s' := by
  simpa only [State.departedFrom, hcb, hsq, hdu] using h

theorem State.departedFrom.keeps {u v s : State} (h : u.departedFrom s) (hcb : v.cb = u.cb) (hrt : v.rt = u.rt) (hsq : v.sq = u.sq)
    (hhalt : v.halt = u.halt) (hdu : v.du = u.du) : v.departedFrom s := by
  simpa only [State.departedFrom, hcb, hrt, hsq, hhalt, hdu] using h

section Outcomes

variable {s : State} {c : StationConfig} {x : Image} {sender : StationId} {q : Nat} (now : Instant) (closing : Bool)

/-- R10, R11. -/
theorem State.adopt_spec (hq : x.position sender = some q) :
    (s.adopt c now closing sender x).iu = { image := some x, copy := some x, certainty := some .synced, marks := .empty } ∧
      (s.adopt c now closing sender x).ct.TimedBy s.ct c x now closing sender q s.ct.suppressed True ∧
      (s.adopt c now closing sender x).reportsAdoption s c.id x := by
  have htimed := State.adoptTiming_timedBy (s := s.setIu { image := some x, copy := some x, certainty := some .synced, marks := .empty })
    (c := c) hq now closing s.ct.suppressed trivial
  refine ⟨by simp [State.adopt], by simpa [State.adopt] using htimed, ?_⟩
  exact State.reportAdopted_reports (v := s) (State.reportDiverged_reports (s := s) rfl) (by simp) rfl

/-- R83. -/
theorem State.evictedByAdoption_spec (hq : x.position sender = some q) :
    (s.evictedByAdoption c now closing sender x).iu = { image := some x, copy := none, certainty := none, marks := .empty } ∧
      (s.evictedByAdoption c now closing sender x).ct.TimedBy s.ct c x now closing sender q false True ∧
      (s.evictedByAdoption c now closing sender x).departedFrom s ∧ (s.evictedByAdoption c now closing sender x).ti = s.ti.dropArmed ∧
      (s.evictedByAdoption c now closing sender x).sc = { s.sc with
        state := .listen, departing := false, removal := some .evicted,
        holdoff := some (now + 16 * (c.period * unitsPerMicrosecond)),
        founding := some (now + (4 + c.id.val) * (c.period * unitsPerMicrosecond)) } ∧
      (s.evictedByAdoption c now closing sender x).flag .removed = true ∧
      (s.evictedByAdoption c now closing sender x).reportsDivergence s c.id x := by
  obtain ⟨v, hv⟩ : ∃ v, v = (s.reportDiverged c.id s.iu.copy x).departs c now .evicted (some (now + holdoffTime c)) x := ⟨_, rfl⟩
  obtain ⟨hiu, hct, hdeparted, hti, hsc, hflag⟩ := State.departs_spec c now .evicted (some (now + holdoffTime c)) x
    (s.reportDiverged c.id s.iu.copy x)
  have hkept := State.KeepsReports.departs c now .evicted (some (now + holdoffTime c)) x (s.reportDiverged c.id s.iu.copy x)
  rw [← hv] at hiu hct hdeparted hti hsc hflag hkept
  have hu : s.evictedByAdoption c now closing sender x = v.adoptTiming c now closing false sender x := by rw [hv]; rfl
  have hreports : (s.reportDiverged c.id s.iu.copy x).reportsDivergence s c.id x := State.reportDiverged_reports rfl
  have htimed := State.adoptTiming_timedBy (s := v) (c := c) hq now closing false trivial
  have hend : v.KeepsReports (v.adoptTiming c now closing false sender x) := .of_cp (by simp)
  rw [hct] at htimed
  rw [hu]
  refine ⟨by simpa using hiu, by simpa using htimed, ?_, by simpa using hti, ?_, hend.flag _ hflag, hreports.keeps (hkept.trans hend).keepsReportsOf⟩
  · exact (hdeparted.congr (by simp) (by simp) (by simp)).keeps (by simp) (by simp) (by simp) (by simp) (by simp)
  · simpa [holdoffTime, periodOf, microseconds] using hsc

/-- R18. -/
theorem State.yieldTo_spec (hq : x.position sender = some q) :
    (s.yieldTo c now closing sender x).iu = { image := some x, copy := none, certainty := none, marks := .empty } ∧
      (s.yieldTo c now closing sender x).ct.TimedBy s.ct c x now closing sender q false False ∧
      (s.yieldTo c now closing sender x).departedFrom s ∧ (s.yieldTo c now closing sender x).ti = s.ti.dropArmed ∧
      (s.yieldTo c now closing sender x).sc = { s.sc with
        state := .listen, departing := false, removal := some .yielded,
        founding := some (now + (4 + c.id.val) * (c.period * unitsPerMicrosecond)) } ∧
      (s.yieldTo c now closing sender x).flag .removed = true ∧ (s.yieldTo c now closing sender x).flag .yielded = true := by
  obtain ⟨v, hv⟩ : ∃ v, v = (s.departs c now .yielded s.sc.holdoff x).raise .yielded := ⟨_, rfl⟩
  obtain ⟨hiu, hct, hdeparted, hti, hsc, hflag⟩ := State.departs_spec c now .yielded s.sc.holdoff x s
  have hu : s.yieldTo c now closing sender x = v.takeUpTiming c closing false sender x := by rw [hv]; rfl
  have htimed := State.takeUpTiming_timedBy (s := v) (c := c) (before := s.ct) hq now closing false (known := False) id
  have hend : v.KeepsReports (v.takeUpTiming c closing false sender x) := .of_cp (by simp)
  rw [hu]
  refine ⟨by simpa [hv] using hiu, by simpa using htimed, ?_, by simpa [hv] using hti, by simpa [hv] using hsc, hend.flag _ ?_, hend.flag _ ?_⟩
  · exact hdeparted.keeps (by simp [hv]) (by simp [hv]) (by simp [hv]) (by simp [hv]) (by simp [hv])
  · rw [hv]; exact State.flag_raise_of_flag .yielded .removed hflag
  · rw [hv]; exact State.flag_raise_self .yielded _

/-- R12. -/
theorem State.trackSummary_spec (known : Bool) (hq : x.position sender = some q) :
    (s.trackSummary c now closing known sender x).iu = { image := some x, copy := none, certainty := none, marks := .empty } ∧
      (s.trackSummary c now closing known sender x).ct.TimedBy s.ct c x now closing sender q false
        (known = true ∧ s.ct.state ≠ .untimed) :=
  ⟨by simp [State.trackSummary, ImageUnit.empty], State.trackTiming_timedBy (s := s.setIu { ImageUnit.empty with image := some x }) hq now closing false known⟩

/-- R75, R106, R140. -/
theorem State.confirmJoin_spec (known : Bool) (hq : x.position sender = some q) :
    (s.confirmJoin c now closing known sender x).iu = { image := some x, copy := some x, certainty := some .synced, marks := .empty } ∧
      (s.confirmJoin c now closing known sender x).ct.TimedBy s.ct c x now closing sender q s.sc.departing
        (known = true ∧ s.ct.state ≠ .untimed) ∧
      (s.confirmJoin c now closing known sender x).sc = { s.sc with state := .member, attempts := 0 } ∧
      (s.confirmJoin c now closing known sender x).flag .joined = true ∧ (s.confirmJoin c now closing known sender x).rm = 0 ∧
      (s.confirmJoin c now closing known sender x).halt = { outcome := if x.run = .halted then .adopted else .none, unacked := 0 } := by
  obtain ⟨v, hv⟩ : ∃ v, v = (((((s.setIu { image := some x, copy := some x, certainty := some .synced, marks := .empty }).setSc
      { s.sc with state := .member, attempts := 0 }).raise .joined).setRm 0).setHalt
        { outcome := if x.run = .halted then .adopted else .none, unacked := 0 }) := ⟨_, rfl⟩
  have hu : s.confirmJoin c now closing known sender x = v.trackTiming c now closing s.sc.departing known sender x := by rw [hv]; rfl
  have htimed := State.trackTiming_timedBy (s := v) (c := c) hq now closing s.sc.departing known
  have hct : v.ct = s.ct := by rw [hv]; rfl
  have hjoined : v.flag .joined = true := by rw [hv]; exact State.flag_raise_self .joined _
  have hend : v.KeepsReports (v.trackTiming c now closing s.sc.departing known sender x) := .of_cp (by simp)
  rw [hct] at htimed
  rw [hu]
  exact ⟨by simp [hv], htimed, by simp [hv], hend.flag _ hjoined, by simp [hv], by simp [hv]⟩

end Outcomes

/-! ### The header and the items -/

/-- After the summary step: the header check and the items of a listed sender's BEAT, and the sender is heard (R27, R55). -/
def State.headed (c : StationConfig) (m : Image) (p : Nat) (b : Beat) (u : State) : State :=
  ((if b.disagrees m p then u.countInconsistent else u).afterHeader c.id b m p).hear b.sender

section Headed

variable {s u : State} {c : StationConfig} {m x : Image} {p q : Nat} {b : Beat}

theorem State.hear_listedBeat {outcome : SummaryOutcome} (h : outcome = .confirmed ∨ outcome = .taken) :
    (u.listedBeat c m p outcome b).hear b.sender = u.headed c m p b := by
  rw [State.listedBeat_afterHeader u c m p b outcome h]
  rfl

@[simp] theorem State.afterHeader_unchanged (u : State) (own : StationId) (b : Beat) (m : Image) (p : Nat) :
    (u.afterHeader own b m p).sc = u.sc ∧ (u.afterHeader own b m p).ct = u.ct ∧ (u.afterHeader own b m p).ti = u.ti ∧
      (u.afterHeader own b m p).cb = u.cb ∧ (u.afterHeader own b m p).sq = u.sq ∧ (u.afterHeader own b m p).rm = u.rm ∧
      (u.afterHeader own b m p).rt = u.rt ∧ (u.afterHeader own b m p).du = u.du ∧ (u.afterHeader own b m p).halt = u.halt ∧
      (u.afterHeader own b m p).cfg = u.cfg ∧ (u.afterHeader own b m p).free = u.free := by
  unfold State.afterHeader
  (repeat' split) <;> simp

/-- What the header and the items leave of the image unit depends on it, and on whether the station is MEMBER, alone. -/
theorem State.afterHeader_iu_congr {t : State} (hiu : u.iu = t.iu) (hstate : u.sc.state = .member ↔ t.sc.state = .member) (own : StationId)
    (b : Beat) (m : Image) (p : Nat) : (u.afterHeader own b m p).iu = (t.afterHeader own b m p).iu := by
  unfold State.afterHeader
  by_cases hheader : b.epoch ≠ m.epoch ∨ b.cycle ≠ m.cycle
  · rw [if_pos hheader, if_pos hheader]
    by_cases hs : u.sc.state = .member
    · rw [if_pos hs, if_pos (hstate.1 hs), State.setIu_iu, State.setIu_iu, hiu]
    · rw [if_neg hs, if_neg (fun h => hs (hstate.2 h)), hiu]
  · rw [if_neg hheader, if_neg hheader]
    split
    · exact hiu
    · exact State.applyItems_iu_congr hiu own b.sender b.items

theorem State.afterHeader_kept (u : State) (own : StationId) (b : Beat) (m : Image) (p : Nat) :
    (u.afterHeader own b m p).iu.copy = u.iu.copy ∧ (u.afterHeader own b m p).iu.image.isSome = u.iu.image.isSome ∧
      (b.epoch = m.epoch → b.cycle = m.cycle → (u.afterHeader own b m p).iu.certainty = u.iu.certainty) := by
  unfold State.afterHeader
  by_cases hheader : b.epoch ≠ m.epoch ∨ b.cycle ≠ m.cycle
  · rw [if_pos hheader]
    refine ⟨?_, ?_, fun he hc => absurd hheader (by simp [he, hc])⟩ <;> split <;> simp
  · rw [if_neg hheader]
    split
    · exact ⟨rfl, rfl, fun _ _ => rfl⟩
    · obtain ⟨hcertainty, hcopy, himage⟩ := u.applyItems_kept own b.sender b.items
      exact ⟨hcopy, himage, fun _ _ => hcertainty⟩

theorem State.headed_spec (u : State) (c : StationConfig) (m : Image) (p : Nat) (b : Beat) :
    (u.headed c m p b).sc = u.sc ∧ (u.headed c m p b).ct = u.ct.hears b.sender ∧ (u.headed c m p b).cb = u.cb ∧
      (u.headed c m p b).sq = u.sq ∧ (u.headed c m p b).rm = u.rm ∧ (u.headed c m p b).rt = u.rt ∧ (u.headed c m p b).du = u.du ∧
      (u.headed c m p b).halt = u.halt ∧ (u.headed c m p b).cfg = u.cfg ∧ (u.headed c m p b).iu = (u.afterHeader c.id b m p).iu ∧
      (u.ti.receiving = none → (u.headed c m p b).ti = u.ti.counts b m p) := by
  unfold State.headed
  obtain ⟨v, hv⟩ : ∃ v, v = if b.disagrees m p then u.countInconsistent else u := ⟨_, rfl⟩
  have hkept : v.sc = u.sc ∧ v.iu = u.iu ∧ v.ct = u.ct ∧ v.cb = u.cb ∧ v.sq = u.sq ∧ v.rm = u.rm ∧ v.rt = u.rt ∧ v.du = u.du ∧
      v.halt = u.halt ∧ v.cfg = u.cfg ∧ v.ti.receiving = u.ti.receiving := by
    rw [hv]
    split <;> simp [State.countInconsistent]
  have hcounts := u.counts_of_countInconsistent b m p
  rw [← hv] at hcounts ⊢
  obtain ⟨hsc, hiu, hct, hcb, hsq, hrm, hrt, hdu, hhalt, hcfg, hr⟩ := hkept
  refine ⟨by simp [hsc], by simp [State.hear, CycleTimer.hears, hct], by simp [hcb], by simp [hsq], by simp [hrm], by simp [hrt], by simp [hdu],
    by simp [hhalt], by simp [hcfg], ?_, fun hnone => ?_⟩
  · rw [State.hear, State.setCt_iu]
    exact State.afterHeader_iu_congr hiu (by rw [hsc]) c.id b m p
  · rw [← hcounts, State.hear, State.setCt_ti, (State.afterHeader_unchanged v c.id b m p).2.2.1]
    rw [← hnone, ← hr]

/-! ### What items may report -/

theorem Image.arrive_halting {m : Image} (h : m.halting) (k : Marks) (sender : StationId) (item : Item) :
    (m.arrive k sender item).1.halting ∧ ∀ dropped, (m.arrive k sender item).2.2 ≠ .gatherStarted dropped := by
  cases item with
  | haltAck =>
    refine ⟨?_, nofun⟩
    simp only [Image.arrive, Image.arriveAck]
    split
    · split
      · exact .inl rfl
      · exact h
    · exact h
  | resumeReq => exact ⟨h, nofun⟩
  | haltReq =>
    have hnot : ¬ (m.run = .running ∧ m.gather.isNone) := by
      rintro ⟨hrun, hnone⟩
      rcases h with h | h
      · rw [Option.isNone_iff_eq_none] at hnone
        simp [hnone] at h
      · rw [hrun] at h
        cases h
    simp only [Image.arrive, Image.arriveHalt, if_neg hnot]
    exact ⟨h, nofun⟩
  | priorityReq cause total serial =>
    simp only [Image.arrive, Image.arrivePriority]
    (repeat' split) <;> exact ⟨h, nofun⟩
  | leave => exact ⟨h, nofun⟩

theorem State.reportItem_keepsFlags (s : State) (own sender : StationId) (effect : ItemEffect) (f : EventFlag) (h : s.flag f = true) :
    (s.reportItem own sender effect).flag f = true := by
  unfold State.reportItem
  split
  · exact h
  · split
    · exact State.flag_raise_of_flag .refused f h
    · exact h
  · split
    · exact State.flag_raise_of_flag .refused f (State.flag_raise_of_flag .draining f h)
    · exact State.flag_raise_of_flag .draining f h

theorem State.applyItem_keepsFlags (s : State) (own sender : StationId) (item : Item) (f : EventFlag) (h : s.flag f = true) :
    (s.applyItem own sender item).flag f = true := by
  unfold State.applyItem
  split
  · dsimp only
    split
    · exact State.reportItem_keepsFlags _ own sender _ f h
    · exact h
  · exact h

/-- An item of another sender refuses no request of the station in a halting group. -/
theorem State.applyItem_halting {own sender : StationId} (hother : sender ≠ own) (hm : s.iu.image = some m) (h : m.halting) (item : Item) :
    (s.applyItem own sender item).cp.lastRefusal = s.cp.lastRefusal ∧
      ∃ m', (s.applyItem own sender item).iu.image = some m' ∧ m'.halting := by
  obtain ⟨hhalting, hstarted⟩ := Image.arrive_halting h s.iu.marks sender item
  unfold State.applyItem
  simp only [hm]
  split
  · refine ⟨?_, _, by simp, hhalting⟩
    generalize (m.arrive s.iu.marks sender item).2.2 = effect at hstarted
    cases effect with
    | nothing => rfl
    | refused reason serial => simp only [State.reportItem, if_neg hother]; rfl
    | gatherStarted dropped => exact absurd rfl (hstarted dropped)
  · exact ⟨rfl, _, rfl, hhalting⟩

theorem State.KeepsReportsOf.applyItems {own sender : StationId} (hother : sender ≠ own) (items : List Item) :
    ∀ {s : State} {m : Image}, s.iu.image = some m → (x.halting → m.halting) → s.KeepsReportsOf x (s.applyItems own sender items) := by
  unfold State.applyItems
  induction items with
  | nil => exact fun _ _ => ⟨fun _ hf => hf, fun _ => rfl⟩
  | cons item items ih =>
    intro s m hm hx
    have hsome : (s.applyItem own sender item).iu.image.isSome := by rw [(s.applyItem_kept own sender item).2.2, hm]; rfl
    obtain ⟨m', hm'⟩ := Option.isSome_iff_exists.1 hsome
    have hstep : s.KeepsReportsOf x (s.applyItem own sender item) :=
      ⟨fun f hf => s.applyItem_keepsFlags own sender item f hf, fun hhalting => (State.applyItem_halting hother hm (hx hhalting) item).1⟩
    refine hstep.trans (ih hm' fun hhalting => ?_)
    obtain ⟨-, m'', hm'', hhalting'⟩ := State.applyItem_halting hother hm (hx hhalting) item
    rw [hm'] at hm''
    cases hm''
    exact hhalting'

/-- The header and the items clear no report of the summary step. -/
theorem State.KeepsReportsOf.headed (hother : b.sender ≠ c.id) (hx : u.iu.image = some x) : u.KeepsReportsOf x (u.headed c x q b) := by
  obtain ⟨v, hv⟩ : ∃ v, v = if b.disagrees x q then u.countInconsistent else u := ⟨_, rfl⟩
  have hkept : v.cp = u.cp ∧ v.iu = u.iu := by
    rw [hv]
    split <;> simp
  have hv' : u.KeepsReportsOf x v := (State.KeepsReports.of_cp hkept.1).keepsReportsOf
  have hafter : v.KeepsReportsOf x (v.afterHeader c.id b x q) := by
    unfold State.afterHeader
    split
    · split
      · exact (State.KeepsReports.of_cp (by simp)).keepsReportsOf
      · exact (State.KeepsReports.refl v).keepsReportsOf
    · split
      · exact (State.KeepsReports.refl v).keepsReportsOf
      · exact .applyItems hother b.items (by rw [hkept.2]; exact hx) id
  have hheard : (v.afterHeader c.id b x q).KeepsReportsOf x ((v.afterHeader c.id b x q).hear b.sender) :=
    (State.KeepsReports.of_cp (by simp)).keepsReportsOf
  unfold State.headed
  rw [← hv]
  exact (hv'.trans hafter).trans hheard

end Headed

end Sys2Proof.Machine
end

section
/-! PROOF. A summary is taken outside the join window: what the frame end leaves (R12, R26, R54, R67); a LISTEN station tracks it. -/

open Sys2Proof

namespace Sys2Proof.Machine

/-! ### Items leave the roster -/

theorem Image.arrive_digest (m : Image) (k : Marks) (sender : StationId) (item : Item) : (m.arrive k sender item).1.digest = m.digest := by
  cases item with
  | haltAck =>
    simp only [Image.arrive, Image.arriveAck]
    (repeat' split) <;> rfl
  | resumeReq | leave => rfl
  | haltReq =>
    simp only [Image.arrive, Image.arriveHalt]
    split <;> rfl
  | priorityReq cause total serial =>
    simp only [Image.arrive, Image.arrivePriority]
    (repeat' split) <;> rfl

theorem State.applyItem_roster {s : State} {m : Image} (hm : s.iu.image = some m) (own sender : StationId) (item : Item) :
    ∃ m', (s.applyItem own sender item).iu.image = some m' ∧ m'.roster = m.roster ∧ m'.digest = m.digest := by
  refine ⟨_, ?_, m.arrive_roster s.iu.marks sender item, m.arrive_digest s.iu.marks sender item⟩
  unfold State.applyItem
  simp only [hm]
  split <;> simp

theorem State.applyItems_roster {s : State} {m : Image} (hm : s.iu.image = some m) (own sender : StationId) (items : List Item) :
    ∃ m', (s.applyItems own sender items).iu.image = some m' ∧ m'.roster = m.roster ∧ m'.digest = m.digest := by
  unfold State.applyItems
  induction items generalizing s m with
  | nil => exact ⟨m, hm, rfl, rfl⟩
  | cons item items ih =>
    obtain ⟨m', hm', hroster, hdigest⟩ := State.applyItem_roster hm own sender item
    obtain ⟨m'', hm'', hroster', hdigest'⟩ := ih hm'
    exact ⟨m'', hm'', hroster'.trans hroster, hdigest'.trans hdigest⟩

theorem State.afterHeader_roster {u : State} {m x : Image} (hm : u.iu.image = some m) (own : StationId) (b : Beat) (q : Nat) :
    ∃ m', (u.afterHeader own b x q).iu.image = some m' ∧ m'.roster = m.roster ∧ m'.digest = m.digest := by
  unfold State.afterHeader
  (repeat' split)
  · exact ⟨m, hm, rfl, rfl⟩
  · exact ⟨m, hm, rfl, rfl⟩
  · exact ⟨m, hm, rfl, rfl⟩
  · exact State.applyItems_roster hm own b.sender b.items

/-- R67: the judgment of a join reads roster and digest of the image alone. -/
theorem State.joinJudged.of_roster {t : State} {c : StationConfig} {m x : Image} {e : Instant} {seen : Bool} {sc : StationController}
    {ti : TrunkInterface} (h : t.joinJudged c m e seen sc ti) (hroster : m.roster = x.roster) (hdigest : m.digest = x.digest) :
    t.joinJudged c x e seen sc ti := by
  have hlists : m.lists c.id = x.lists c.id := by simp only [Image.lists, Image.ids, hroster]
  simpa only [State.joinJudged, hlists, hroster, hdigest] using h

/-! ### The frame end -/

/-- What a summary `x` that left `u` leaves once the frame has ended outside the join window: the sender stands at position `q` in it. -/
structure State.Taken (u t : State) (c : StationConfig) (now : Instant) (b : Beat) (x : Image) (q : Nat) (before : CycleTimer)
    (suppressed : Bool) (known : Prop) : Prop where
  iu : t.sc.state ≠ .fault → t.iu = (u.afterHeader c.id b x q).iu
  pointer : t.sc.state ≠ .fault → t.ct.pointer = q + 1
  timing : t.sc.state ≠ .fault → (known → t.ct.refixed before c x now suppressed ∧ t.ct.heard = IdSet.add before.heard b.sender) ∧
    (¬ known → t.ct.takenUp c x b.sender q suppressed)
  planned : t.sc.state ≠ .fault → t.ct.plannedBy c x suppressed
  window : t.sc.state ≠ .fault → x.roster.length ≤ q + 1 →
    t.ct.state = .window ∧ t.ct.window = some (now + c.silence * unitsPerMicrosecond) ∧ t.ct.silence = none
  slot : q + 1 < x.roster.length →
    t.sc = u.sc ∧ t.ct.state = .slots ∧ t.ct.silence = some (now + c.silence * unitsPerMicrosecond) ∧
      (u.sc.state ≠ .member → t.ti = u.ti.counts b x q)
  state : t.sc.state ≠ .fault → t.sc.state = u.sc.state
  judged : x.roster.length ≤ q + 1 → u.sc.state = .listen → t.joinJudged c x now true u.sc (u.ti.counts b x q)
  delivered : ∀ s : State, t.sc.state ≠ .fault → u.du = s.du → t.du = ((b.records.filter (accepts c b.sender)).foldl (State.deliver b.sender) s).du
  faulted : t.sc.state = .fault → u.sc.state = .listen ∧ x.roster.length ≤ q + 1 ∧ t.du = u.du
  stays : u.sc.state ≠ .listen → t.sc = u.sc
  kept : u.sc.state ≠ .member → t.rt = u.rt ∧ t.cb = u.cb
  same : t.sq = u.sq ∧ t.rm = u.rm ∧ t.halt = u.halt
  inconsistent : t.ti.inconsistent = (u.ti.counts b x q).inconsistent
  foreign : t.ti.foreign = u.ti.foreign
  reports : u.KeepsReportsOf x t

section Taken

variable {u : State} {c : StationConfig} {now : Instant} {b : Beat} {x : Image} {q : Nat} {before : CycleTimer} {suppressed : Bool} {known : Prop}

theorem State.passes_taken (hother : b.sender ≠ c.id) (hx : u.iu.image = some x) (hr : u.ti.receiving = none) (hon : u.receiverOn = true)
    (htimed : u.ct.TimedBy before c x now false b.sender q suppressed known) :
    u.Taken ((u.headed c x q b).passes c now (q + 1) b.sender b.records) c now b x q before suppressed known := by
  obtain ⟨v, hv⟩ : ∃ v, v = u.headed c x q b := ⟨_, rfl⟩
  obtain ⟨hsc, hct, hcb, hsq, hrm, hrt, hdu, hhalt, hcfg, hiu, hti⟩ := u.headed_spec c x q b
  have hreports : u.KeepsReportsOf x v := by rw [hv]; exact .headed hother hx
  obtain ⟨m', hm', hroster, hdigest⟩ := State.afterHeader_roster (x := x) hx c.id b q
  rw [← hv] at hsc hct hcb hsq hrm hrt hdu hhalt hcfg hiu hti ⊢
  have hti : v.ti = u.ti.counts b x q := hti hr
  have hvr : v.ti.receiving = none := by rw [hti]; rfl
  have hmembers : v.ct.members = x.roster.length := by rw [hct]; exact htimed.planned.members
  have hseen : v.ct.summarySeen = true := by rw [hct]; exact htimed.seen
  have hvon : v.receiverOn = true := (State.receiverOn_congr (by rw [hsc])).trans hon
  obtain ⟨hpointer, hheard, -⟩ := v.ct.movedTo_kept c v.ti.receiving now (q + 1)
  have hafter := htimed.after (t' := v.ct.movedTo c v.ti.receiving now (q + 1))
    (by rw [hct]; exact CycleTimer.movedTo_keepsTiming _ c _ now _) (by rw [hheard, hct])
  refine ⟨fun h => ?_, fun h => ?_, fun h => ?_, fun h => ?_, fun h hlast => ?_, fun hslot => ?_,
    fun h => (State.passes_kept h).2.2.trans (by rw [hsc]), fun hlast hs => ?_, fun s h hs => ?_, fun h => ?_,
    fun hs => ?_, fun hs => ?_, ?_, ?_, ?_, ?_⟩
  · rw [(State.passes_kept h).1, hiu]
  · rw [(State.passes_kept h).2.1, hpointer]
  · rw [(State.passes_kept h).2.1]
    exact ⟨hafter.1, hafter.2.1⟩
  · rw [(State.passes_kept h).2.1]
    exact hafter.2.2.2
  · rw [← hmembers] at hlast
    rw [(State.passes_kept h).2.1]
    exact CycleTimer.movedTo_window hlast c _ now
  · rw [← hmembers] at hslot
    have hsc' : (v.passes c now (q + 1) b.sender b.records).sc = v.sc := State.passes_sc_slot hslot
    have hkept := State.passes_kept (s := v) (c := c) (now := now) (p := q + 1) (origin := b.sender) (records := b.records)
      (by rw [hsc']; exact State.not_fault_of_on hvon)
    refine ⟨hsc'.trans hsc, ?_, ?_, fun hs => ?_⟩
    · rw [hkept.2.1]; exact CycleTimer.movedTo_slots hslot c _ now
    · rw [hkept.2.1, CycleTimer.movedTo, if_pos hslot, hvr]; rfl
    · exact (State.passes_slot_other hslot (fun h => hs (hsc ▸ h.1))).1.trans hti
  · rw [← hmembers] at hlast
    have hjudged := State.passes_joinJudged (c := c) (now := now) (origin := b.sender) (records := b.records) hlast (by rwa [hsc]) (by rw [hiu]; exact hm')
    rw [hseen, hsc, hti] at hjudged
    exact hjudged.of_roster hroster hdigest
  · exact State.passes_du hvon h (hdu.trans hs)
  · have hlisten : u.sc.state = .listen := by
      by_contra hnot
      rw [State.passes_sc_of_not_listen (by rwa [hsc])] at h
      exact State.not_fault_of_on hvon h
    refine ⟨hlisten, ?_, (State.passes_du_of_fault h).trans hdu⟩
    by_contra hslot
    rw [State.passes_sc_slot (by rw [hmembers]; omega)] at h
    exact State.not_fault_of_on hvon h
  · exact (State.passes_sc_of_not_listen (by rwa [hsc])).trans hsc
  · rw [← hrt, ← hcb]
    exact State.passes_rt_cb (by rwa [hsc])
  · exact ⟨by simp [hsq], by simp [hrm], by simp [hhalt]⟩
  · simp [hti]
  · simp [hti, TrunkInterface.counts]
  · exact hreports.trans (State.KeepsReports.passes v).keepsReportsOf

/-- A BEAT whose summary is taken, at a station that then holds no ARMED frame, ends outside the join window (R26, R37, R38, R54). -/
theorem State.concluded_taken {s : State} {line : List Bool} {inWindow : Bool} (hline : receiveLine line = .whole (.beat b true) true)
    (hok : b.structureOk c true = true) (hb : b.summary = some x) (hother : b.sender ≠ c.id) (hq : x.position b.sender = some q)
    (hstep : s.takeSummary c now false b.sender x = (u, .taken)) (hx : u.iu.image = some x) (htx : u.ti.tx ≠ .armed)
    (hleave : u.sc.deferredLeave = false) (hct : u.ct.state = .slots) (hpointer : u.ct.pointer = q + 1) :
    (s.classify c now false inWindow line).concluded c now false = (u.headed c x q b).passes c now (q + 1) b.sender b.records := by
  obtain ⟨v, hv⟩ : ∃ v, v = u.headed c x q b := ⟨_, rfl⟩
  obtain ⟨hsc, hct', -⟩ := u.headed_spec c x q b
  have htx' : (u.headed c x q b).ti.tx = u.ti.tx := by
    simp only [State.headed, State.hear_unchanged, State.afterHeader_unchanged]
    split <;> simp [State.countInconsistent]
  rw [← hv] at hsc hct' htx' ⊢
  rw [State.classify_sound now _ _ hline hother hok, State.soundBeat_listed ((State.summaryStep_some hb c now false).trans hstep) hx hq,
    State.hear_listedBeat (.inr rfl), if_pos rfl, ← hv]
  have hset := Handled.concluded_set (c := c) (now := now) (h := { state := v, timing := .set, origin := b.sender, records := b.records })
    (by rwa [htx']) (by rwa [hsc]) rfl (by rw [hct']; exact hct)
  have hvp : v.ct.pointer = q + 1 := by rw [hct']; exact hpointer
  rw [hset, hvp]

theorem exec_frameEnd_taken {s : State} {line : List Bool} {inWindow : Bool} (hc : s.cfg = some c) (hr : s.ti.receiving = some inWindow)
    (hopen : (inWindow && s.ct.state == .window) = false) (hon : s.receiverOn = true) (ht : s.ti.tx = .idle)
    (hline : receiveLine line = .whole (.beat b true) true) (hok : b.structureOk c true = true) (hb : b.summary = some x)
    (hother : b.sender ≠ c.id) (hq : x.position b.sender = some q)
    (hstep : s.pastFrame.takeSummary c now false b.sender x = (u, .taken)) (hx : u.iu.image = some x) (htx : u.ti.tx ≠ .armed)
    (hleave : u.sc.deferredLeave = false) (hct : u.ct.state = .slots) (hpointer : u.ct.pointer = q + 1) :
    exec (.frameEnd now line) s = .next ((u.headed c x q b).passes c now (q + 1) b.sender b.records) := by
  rw [exec_frameEnd_heard hc hr hon (.inl ht), hopen, State.outOfFrame_of_not_armed (by simp [ht]),
    State.concluded_taken hline hok hb hother hq hstep hx htx hleave hct hpointer]

end Taken

end Sys2Proof.Machine
end

section
/-! PROOF. A LISTEN station tracks the summary it hears (R12), and judges its join as the window opens (R67, R68). -/

open Sys2Proof

namespace Sys2Proof.Machine

section Listener

variable {s : State} {c : StationConfig} {x : Image} {b : Beat} {q : Nat} {line : List Bool}

theorem State.takeSummary_listen (hs : s.sc.state = .listen) (now : Instant) (closing : Bool) (sender : StationId) :
    s.takeSummary c now closing sender x = (s.trackSummary c now closing (s.listsSender sender) sender x, .taken) := by
  simp [State.takeSummary, hs]

theorem State.listsSender_iff (sender : StationId) : s.listsSender sender = true ↔ ∃ m, s.iu.image = some m ∧ m.lists sender = true := by
  cases h : s.iu.image <;> simp [State.listsSender, h]

/-- R12: the frame end at a LISTEN station that takes a summary. -/
theorem exec_frameEnd_tracked (hc : s.cfg = some c) (hs : s.sc.state = .listen) (hleave : s.sc.deferredLeave = false)
    (hct : s.ct.state = .slots ∨ s.ct.state = .untimed) (hr : s.ti.receiving = some false) (ht : s.ti.tx = .idle)
    (hline : receiveLine line = .whole (.beat b true) true) (hok : b.structureOk c true = true) (hb : b.summary = some x)
    (hother : b.sender ≠ c.id) (hq : x.position b.sender = some q) (now : Instant) :
    ∃ u t : State, exec (.frameEnd now line) s = .next t ∧
      u.iu = { image := some x, copy := none, certainty := none, marks := .empty } ∧ u.sc = s.sc ∧
      u.ti = { s.ti with receiving := none } ∧ u.cb = s.cb ∧ u.rt = s.rt ∧ u.sq = s.sq ∧ u.halt = s.halt ∧ u.du = s.du ∧
      u.Taken t c now b x q s.ct false (s.listsSender b.sender = true ∧ s.ct.state ≠ .untimed) := by
  obtain ⟨u, hu⟩ : ∃ u, u = s.pastFrame.trackSummary c now false (s.listsSender b.sender) b.sender x := ⟨_, rfl⟩
  have hstep : s.pastFrame.takeSummary c now false b.sender x = (u, .taken) := by
    rw [State.takeSummary_listen (s := s.pastFrame) hs, hu]
    rfl
  obtain ⟨hiu, htimed⟩ := State.trackSummary_spec (s := s.pastFrame) (c := c) now false (s.listsSender b.sender) hq
  rw [← hu] at hiu htimed
  have hsc : u.sc = s.sc := by rw [hu]; simp
  have hti : u.ti = { s.ti with receiving := none } := by rw [hu]; simp
  have himage : u.iu.image = some x := by rw [hiu]
  have hslots : u.ct.state = .slots := by
    by_cases hknown : s.listsSender b.sender = true ∧ s.ct.state ≠ .untimed
    · exact (htimed.state.1 hknown).trans (hct.resolve_right hknown.2)
    · exact htimed.state.2 hknown
  have hon : s.receiverOn = true := State.receiverOn_eq_true (.inl hs)
  refine ⟨u, _, exec_frameEnd_taken hc hr rfl hon ht hline hok hb hother hq hstep himage (by simp [hti, ht]) (by rw [hsc]; exact hleave) hslots
    htimed.pointer, hiu, hsc, hti, ?_, ?_, ?_, ?_, ?_, ?_⟩
  iterate 5 simp [hu]
  exact State.passes_taken hother himage (by rw [hti]) ((State.receiverOn_congr (by rw [hsc])).trans hon) htimed

end Listener

/-- Settles O44. -/
theorem listenerTracksSummary : Obligations.ListenerTracksSummary := by
  unfold Obligations.ListenerTracksSummary
  intro s c x b now line q hc hs hleave hct hr ht hline hok hb hother hq known ended
  obtain ⟨u, t, hend, hiu, hsc, hti, hcb, hrt, hsq, hhalt, hdu, htaken⟩ := exec_frameEnd_tracked hc hs hleave hct hr ht hline hok hb hother hq now
  have hended : u.ti.counts b x q = ended := by rw [hti]; rfl
  have hknown : known ↔ s.listsSender b.sender = true ∧ s.ct.state ≠ .untimed :=
    ⟨fun h => ⟨(State.listsSender_iff b.sender).2 h.2, by simp [h.1]⟩, fun h => ⟨hct.resolve_right h.2, (State.listsSender_iff b.sender).1 h.1⟩⟩
  have hnot : u.sc.state ≠ .member := by simp [hsc, hs]
  refine ⟨t, hend, fun hslot => ?_, fun hlast => ?_, fun hfault => ?_, fun hfault => ⟨?_, htaken.pointer hfault, ?_, fun h => ?_, fun h => ?_, fun hlast => ?_,
    htaken.delivered s hfault hdu⟩, ?_, ?_, ?_, ?_⟩
  · obtain ⟨hsc', hstate, hsilence, hti'⟩ := htaken.slot hslot
    exact ⟨hstate, hsilence, hsc'.trans hsc, (hti' hnot).trans hended⟩
  · rw [← hsc, ← hended]
    exact htaken.judged hlast (by rw [hsc]; exact hs)
  · exact (htaken.faulted hfault).2.2.trans hdu
  · rw [htaken.iu hfault]
    exact State.afterHeader_iu_congr hiu (by rw [hsc]; rfl) _ _ _ _
  · rw [htaken.inconsistent, hended]
  · exact (htaken.timing hfault).1 (hknown.1 h)
  · exact (htaken.timing hfault).2 (fun h' => h (hknown.2 h'))
  · obtain ⟨hwindow, htimer, -⟩ := htaken.window hfault hlast
    exact ⟨hwindow, htimer⟩
  · exact (htaken.kept hnot).2.trans hcb
  · exact (htaken.kept hnot).1.trans hrt
  · exact htaken.same.1.trans hsq
  · exact htaken.same.2.2.trans hhalt

/-! ### The judgment of a join -/

theorem State.listedBeat_ti (s : State) (c : StationConfig) (m : Image) (p : Nat) (outcome : SummaryOutcome) (b : Beat) :
    ∃ n, (s.listedBeat c m p outcome b).ti = { s.ti with inconsistent := n } := by
  unfold State.listedBeat
  dsimp only
  split
  · exact ⟨_, by simp only [State.goDoubtful_unchanged]; rfl⟩
  · split
    · exact ⟨_, rfl⟩
    · exact ⟨s.ti.inconsistent, by simp⟩

theorem State.listedBeat_roster {s : State} {m : Image} (hm : s.iu.image = some m) (c : StationConfig) (x : Image) (p : Nat)
    (outcome : SummaryOutcome) (b : Beat) :
    ∃ m', (s.listedBeat c x p outcome b).iu.image = some m' ∧ m'.roster = m.roster ∧ m'.digest = m.digest := by
  unfold State.listedBeat
  dsimp only
  split
  · exact ⟨m, by simpa using hm, rfl, rfl⟩
  · split
    · exact ⟨m, hm, rfl, rfl⟩
    · exact State.applyItems_roster hm c.id b.sender b.items

/-- Settles O30. -/
theorem joinIsJudgedAtWindowOpening : Obligations.JoinIsJudgedAtWindowOpening := by
  refine ⟨fun s c m e hc hs hm hct hsilence hlast => ?_, fun s c m b now line p hc hs hleave hr ht hline hok hother hp hcase => ?_⟩
  · have hjudged := State.judgeJoin_joinJudged (s := s.setCt (s.ct.inWindowAt c e (s.ct.pointer + 1))) hs hm c e
    obtain ⟨hcb, hsq, hrt, -⟩ := State.judgeJoin_unchanged_of_listen (s := s.setCt (s.ct.inWindowAt c e (s.ct.pointer + 1))) hs (c := c) (now := e)
    refine ⟨_, exec_slotPasses hc hct hsilence, ?_⟩
    rw [State.movePointer_window_listen hlast hs]
    refine ⟨fun hfault => ?_, by simp, hrt, hcb, hsq, hjudged⟩
    obtain ⟨hiu, hct', -⟩ := State.judgeJoin_kept hfault
    exact ⟨hiu, hct'⟩
  · have hon : s.receiverOn = true := State.receiverOn_eq_true (.inl hs)
    rcases hcase with ⟨hb, hct, hlast⟩ | ⟨hb, hm, hct, hcomes, hlast⟩
    · obtain ⟨u, t, hend, hiu, hsc, hti, hcb, hrt, hsq, hhalt, hdu, htaken⟩ :=
        exec_frameEnd_tracked hc hs hleave hct hr ht hline hok hb hother hp now
      have hnot : u.sc.state ≠ .member := by simp [hsc, hs]
      refine ⟨t, hend, fun hfault => ?_, fun hfault => ?_, ?_, ?_, ?_, ?_⟩
      · obtain ⟨hwindow, htimer, hsilence⟩ := htaken.window hfault hlast
        refine ⟨hwindow, htimer, hsilence, htaken.pointer hfault, ?_⟩
        rw [htaken.iu hfault, (u.afterHeader_kept c.id b m p).2.1, hiu]
        rfl
      · exact (htaken.faulted hfault).2.2.trans hdu
      · exact (htaken.kept hnot).1.trans hrt
      · exact (htaken.kept hnot).2.trans hcb
      · exact htaken.same.1.trans hsq
      · have hjudged := htaken.judged hlast (by rw [hsc]; exact hs)
        have hti' : u.ti.counts b m p = { s.ti with receiving := none, inconsistent := t.ti.inconsistent } := by
          rw [htaken.inconsistent, hti]
          rfl
        rw [hb, Option.isSome_some, Bool.or_true, ← hti', ← hsc]
        exact hjudged
    · obtain ⟨u, hu⟩ : ∃ u, u = (s.pastFrame.listedBeat c m p .ignored b).hear b.sender := ⟨_, rfl⟩
      obtain ⟨n, hn⟩ := s.pastFrame.listedBeat_ti c m p .ignored b
      obtain ⟨m', hm', hroster, hdigest⟩ := State.listedBeat_roster (s := s.pastFrame) hm c m p .ignored b
      have hti : u.ti = { s.ti with receiving := none, inconsistent := n } := by rw [hu]; exact hn
      have hsc : u.sc = s.sc := by rw [hu]; simp
      have huct : u.ct = s.ct.hears b.sender := by rw [hu]; simp [State.hear, CycleTimer.hears]
      have hmembers : u.ct.members = s.ct.members := by rw [huct]; rfl
      have himage : u.iu.image = some m' := by rw [hu]; exact hm'
      have hlisten : u.sc.state = .listen := by rw [hsc]; exact hs
      have hend : exec (.frameEnd now line) s = .next (u.passes c now (p + 1) b.sender b.records) := by
        rw [exec_frameEnd_heard hc hr hon (.inl ht), Bool.false_and, State.outOfFrame_of_not_armed (by simp [ht]),
          State.classify_sound now _ _ hline hother hok, State.soundBeat_plain (s := s.pastFrame) now false hb hm hp, ← hu]
        exact congrArg Host.Outcome.next (Handled.concluded_listed (by simp [hti, ht]) (by simpa [hsc] using hleave) rfl
          (by rw [huct]; exact hct) (by rw [huct]; exact hcomes))
      have hjudged := State.passes_joinJudged (c := c) (now := now) (origin := b.sender) (records := b.records) (p := p + 1)
        (by rw [hmembers]; exact hlast) hlisten himage
      obtain ⟨hrt, hcb⟩ := State.passes_rt_cb (s := u) (c := c) (now := now) (p := p + 1) (origin := b.sender) (records := b.records) (by simp [hlisten])
      obtain ⟨hpointer, -⟩ := u.ct.movedTo_kept c u.ti.receiving now (p + 1)
      refine ⟨_, hend, fun hfault => ?_, fun hfault => ?_, ?_, ?_, ?_, ?_⟩
      · obtain ⟨hiu, hmoved, -⟩ := State.passes_kept hfault
        obtain ⟨hwindow, htimer, hsilence⟩ := CycleTimer.movedTo_window (t := u.ct) (p := p + 1) (by rw [hmembers]; exact hlast) c u.ti.receiving now
        rw [hmoved, hiu, himage]
        exact ⟨hwindow, htimer, hsilence, hpointer, rfl⟩
      · rw [State.passes_du_of_fault hfault, hu]
        simp
      · rw [hrt, hu]; simp
      · rw [hcb, hu]; simp
      · rw [(State.passes_unchanged u c now (p + 1) b.sender b.records).1, hu]; simp
      · have hti' : { s.ti with receiving := none, inconsistent := (u.passes c now (p + 1) b.sender b.records).ti.inconsistent } = u.ti := by
          rw [(State.passes_unchanged u c now (p + 1) b.sender b.records).2.2.2.2.2, hti]
        have hseen : (s.ct.summarySeen || b.summary.isSome) = u.ct.summarySeen := by rw [hb, huct]; simp [CycleTimer.hears]
        rw [hti', hseen, ← hsc]
        exact hjudged.of_roster hroster hdigest

end Sys2Proof.Machine
end

section
/-! PROOF. A summary ends in the slots of a MEMBER (R4, R10, R11, R17, R18, R83). -/

open Sys2Proof

namespace Sys2Proof.Machine

/-! ### The summary step at a MEMBER, row by row -/

section Rows

variable {s : State} {c : StationConfig} {m x : Image} {sender : StationId} (now : Instant) (closing : Bool)

theorem State.takeSummary_member (hs : s.sc.state = .member) (hm : s.iu.image = some m) :
    s.takeSummary c now closing sender x = s.memberSummary c now closing sender x m := by
  simp only [State.takeSummary, hs, hm]

theorem State.memberSummary_digestDiffers (hl : m.lists sender = true) (hd : x.digest ≠ c.digest) :
    s.memberSummary c now closing sender x m = (s.goDoubtful, .digestDiffers) := by
  simp only [State.memberSummary, hl, if_true, if_pos hd]

theorem State.memberSummary_confirmed (hl : m.lists sender = true) (hd : x.digest = c.digest) (hsynced : s.iu.certainty = some .synced)
    (hcopy : s.iu.copy = some x) :
    s.memberSummary c now closing sender x m = (s.setCt { s.ct with summarySeen := true }, .confirmed) := by
  simp only [State.memberSummary, hl, if_true, hd, ne_eq, not_true_eq_false, if_false, hsynced, hcopy, and_self]

theorem State.memberSummary_adopted (hl : m.lists sender = true) (hd : x.digest = c.digest)
    (hnew : s.iu.certainty ≠ some .synced ∨ s.iu.copy ≠ some x) (hown : x.lists c.id = true) :
    s.memberSummary c now closing sender x m = (s.adopt c now closing sender x, .taken) := by
  have hnot : ¬ (s.iu.certainty = some .synced ∧ s.iu.copy = some x) := fun h => hnew.elim (fun h' => h' h.1) (fun h' => h' h.2)
  simp only [State.memberSummary, hl, if_true, hd, ne_eq, not_true_eq_false, if_false, if_neg hnot, hown]

theorem State.memberSummary_evicted (hl : m.lists sender = true) (hd : x.digest = c.digest)
    (hnew : s.iu.certainty ≠ some .synced ∨ s.iu.copy ≠ some x) (hown : x.lists c.id = false) :
    s.memberSummary c now closing sender x m = (s.evictedByAdoption c now closing sender x, .taken) := by
  have hnot : ¬ (s.iu.certainty = some .synced ∧ s.iu.copy = some x) := fun h => hnew.elim (fun h' => h' h.1) (fun h' => h' h.2)
  simp only [State.memberSummary, hl, if_true, hd, ne_eq, not_true_eq_false, if_false, if_neg hnot, hown, Bool.false_eq_true]

theorem State.memberSummary_foreign_adopted (hl : m.lists sender = false) (hown : x.lists c.id = true)
    (hdoubtful : s.iu.certainty = some .doubtful) (hd : x.digest = c.digest) (hsender : x.lists sender = true) :
    s.memberSummary c now closing sender x m = (s.adopt c now closing sender x, .taken) := by
  simp only [State.memberSummary, hl, Bool.false_eq_true, if_false, hown, if_true, hdoubtful, hd, hsender, and_self]

theorem State.memberSummary_yields (hl : m.lists sender = false) (hown : x.lists c.id = false) (hlarger : foreignLarger m.ids x.ids = true) :
    s.memberSummary c now closing sender x m = (s.yieldTo c now closing sender x, .taken) := by
  simp only [State.memberSummary, hl, Bool.false_eq_true, if_false, hown, hlarger, if_true]

/-- A summary of an unlisted sender that is ignored (R11, R17, R18). -/
theorem State.memberSummary_ignored (hl : m.lists sender = false)
    (h : x.lists c.id = true ∧ (s.iu.certainty = some .synced ∨ x.digest ≠ c.digest ∨ x.lists sender = false) ∨
      x.lists c.id = false ∧ foreignLarger m.ids x.ids = false) :
    s.memberSummary c now closing sender x m = (s, .ignored) := by
  rcases h with ⟨hown, hcase⟩ | ⟨hown, hlarger⟩
  · have hnot : ¬ (s.iu.certainty = some .doubtful ∧ x.digest = c.digest ∧ x.lists sender = true) := by
      rintro ⟨hdoubtful, hd, hsender⟩
      rcases hcase with hsynced | hdigest | hunlisted
      · rw [hdoubtful] at hsynced
        cases hsynced
      · exact hdigest hd
      · rw [hsender] at hunlisted
        cases hunlisted
    simp only [State.memberSummary, hl, Bool.false_eq_true, if_false, hown, if_true, if_neg hnot]
  · simp only [State.memberSummary, hl, Bool.false_eq_true, if_false, hown, hlarger]

end Rows

/-! ### The ends of such frames -/

section Ends

variable {s : State} {c : StationConfig} {m x : Image} {b : Beat} {q : Nat} {line : List Bool}

/-- A MEMBER adopts (R10, R11). -/
theorem exec_frameEnd_adopted (hc : s.cfg = some c) (hs : s.sc.state = .member) (hleave : s.sc.deferredLeave = false)
    (hct : s.ct.state = .slots) (hr : s.ti.receiving = some false) (ht : s.ti.tx = .idle)
    (hline : receiveLine line = .whole (.beat b true) true) (hok : b.structureOk c true = true) (hb : b.summary = some x)
    (hother : b.sender ≠ c.id) (hq : x.position b.sender = some q) (now : Instant)
    (hstep : s.pastFrame.takeSummary c now false b.sender x = (s.pastFrame.adopt c now false b.sender x, .taken)) :
    ∃ t : State, exec (.frameEnd now line) s = .next t ∧ t.sc = s.sc ∧
      t.iu = ((s.setIu { image := some x, copy := some x, certainty := some .synced, marks := .empty }).afterHeader c.id b x q).iu ∧
      t.reportsAdoption s c.id x ∧ t.ct.pointer = q + 1 ∧ t.ct.refixed s.ct c x now s.ct.suppressed ∧
      t.ct.heard = IdSet.add s.ct.heard b.sender ∧ t.ti.foreign = s.ti.foreign ∧
      t.ti.inconsistent = (s.ti.counts b x q).inconsistent ∧
      t.du = ((b.records.filter (accepts c b.sender)).foldl (State.deliver b.sender) s).du := by
  obtain ⟨u, hu⟩ : ∃ u, u = s.pastFrame.adopt c now false b.sender x := ⟨_, rfl⟩
  obtain ⟨hiu, htimed, hreports⟩ := State.adopt_spec (s := s.pastFrame) (c := c) now false hq
  rw [← hu] at hiu htimed hreports hstep
  have hsc : u.sc = s.sc := by rw [hu]; simp
  have hti : u.ti = { s.ti with receiving := none } := by rw [hu]; simp
  have himage : u.iu.image = some x := by rw [hiu]
  have hdu : u.du = s.du := by rw [hu]; simp
  have hmember : u.sc.state = .member := by rw [hsc]; exact hs
  have hend := exec_frameEnd_taken hc hr rfl (State.receiverOn_of_member hs) ht hline hok hb hother hq hstep himage (by simp [hti, ht])
    (by rw [hsc]; exact hleave) ((htimed.state.1 trivial).trans hct) htimed.pointer
  have htaken := State.passes_taken (c := c) (now := now) hother himage (by rw [hti]) (State.receiverOn_of_member hmember) htimed
  generalize (u.headed c x q b).passes c now (q + 1) b.sender b.records = t at hend htaken
  have hsc' : t.sc = s.sc := (htaken.stays (by simp [hmember])).trans hsc
  have hfault : t.sc.state ≠ .fault := by simp [hsc', hs]
  obtain ⟨hrefixed, hheard⟩ := (htaken.timing hfault).1 trivial
  refine ⟨t, hend, hsc', ?_, (State.reportsAdoption.keeps hreports htaken.reports htaken.same.2.2), htaken.pointer hfault, hrefixed, hheard,
    by rw [htaken.foreign, hti], ?_, htaken.delivered s hfault hdu⟩
  · rw [htaken.iu hfault]
    exact State.afterHeader_iu_congr hiu (by rw [hsc]; rfl) _ _ _ _
  · rw [htaken.inconsistent, hti]
    rfl

/-- A frame of a listed sender, without effect on the pointer but R26's, ends in the slots of a MEMBER. -/
theorem Handled.concluded_member_listed {v : State} {p : Nat} {origin : StationId} {records : List Record} (hs : v.sc.state = .member)
    (htx : v.ti.tx ≠ .armed) (hleave : v.sc.deferredLeave = false) (hct : v.ct.state = .slots) (now : Instant) :
    ∃ t, Handled.concluded c now false { state := v, timing := .listed p, origin, records } = t ∧ t.sc = v.sc ∧ t.iu = v.iu ∧
      t.halt = v.halt ∧ t.ti.inconsistent = v.ti.inconsistent ∧ t.ti.foreign = v.ti.foreign ∧ t.ct.heard = v.ct.heard ∧ v.ct.KeepsTiming t.ct ∧
      (v.ct.pointer ≤ p → t.ct.pointer = p + 1) ∧
      (p < v.ct.pointer → t.ct.pointer = v.ct.pointer ∧ t.ct.silence = some (now + c.silence * unitsPerMicrosecond)) ∧
      ∀ s : State, v.du = s.du → t.du = ((records.filter (accepts c origin)).foldl (State.deliver origin) s).du := by
  refine ⟨_, rfl, ?_⟩
  have hon : v.receiverOn = true := State.receiverOn_of_member hs
  rcases Nat.lt_or_ge p v.ct.pointer with hpassed | hcomes
  · rw [Handled.concluded_passed (h := { state := v, timing := .listed p, origin, records }) htx hleave rfl hct hpassed]
    refine ⟨by simp, by simp, by simp, by simp, by simp, by simp, ?_, fun h => absurd h (Nat.not_le.2 hpassed), fun _ => by simp,
      fun s hdu => State.handedOn_du hon hdu⟩
    constructor <;> simp
  · rw [Handled.concluded_listed (h := { state := v, timing := .listed p, origin, records }) htx hleave rfl hct hcomes]
    have hsc : (v.passes c now (p + 1) origin records).sc = v.sc := State.passes_sc_of_not_listen (by simp [hs])
    have hfault : (v.passes c now (p + 1) origin records).sc.state ≠ .fault := by simp [hsc, hs]
    obtain ⟨hiu, hmoved, -⟩ := State.passes_kept hfault
    obtain ⟨hpointer, hheard, -⟩ := v.ct.movedTo_kept c v.ti.receiving now (p + 1)
    refine ⟨hsc, hiu, by simp, by simp, by simp, by rw [hmoved, hheard], ?_, fun _ => by rw [hmoved, hpointer],
      fun h => absurd h (Nat.not_lt.2 hcomes), fun s hdu => State.passes_du hon hfault hdu⟩
    rw [hmoved]
    exact CycleTimer.movedTo_keepsTiming _ c _ now _

end Ends

/-- Settles O41. -/
theorem memberConfirmsOrAdoptsSummary : Obligations.MemberConfirmsOrAdoptsSummary := by
  intro s c m x b now line hc hs hleave hm hct hr ht hline hok hb hother hdigest
  refine ⟨fun p hsynced hcopy hp => ?_, fun q hl hnew hown hq => ?_⟩
  · obtain ⟨u, hu⟩ : ∃ u, u = s.pastFrame.setCt { s.ct with summarySeen := true } := ⟨_, rfl⟩
    have hstep : s.pastFrame.summaryStep c now false b = (u, .confirmed) := by
      rw [State.summaryStep_some hb, State.takeSummary_member (s := s.pastFrame) now false hs hm,
        State.memberSummary_confirmed (s := s.pastFrame) now false (Image.lists_of_position hp) hdigest hsynced hcopy, hu]
      rfl
    obtain ⟨v, hv⟩ : ∃ v, v = u.headed c m p b := ⟨_, rfl⟩
    obtain ⟨hsc, hvct, -, -, -, -, hdu, hhalt, -, hiu, hti⟩ := u.headed_spec c m p b
    rw [← hv] at hsc hvct hdu hhalt hiu hti
    have hti : v.ti = s.ti.counts b m p := by rw [hti (by rw [hu]; rfl), hu]; rfl
    have hsc : v.sc = s.sc := by rw [hsc, hu]; rfl
    obtain ⟨t, ht', hsct, hiut, hhaltt, hinconsistent, hforeign, hheard, hkept, hcomes, hpassed, hdut⟩ :=
      Handled.concluded_member_listed (c := c) (v := v) (p := p) (origin := b.sender) (records := b.records) (by rw [hsc]; exact hs)
        (by simp [hti, TrunkInterface.counts, ht]) (by rw [hsc]; exact hleave) (by rw [hvct, hu]; exact hct) now
    have hend : exec (.frameEnd now line) s = .next t := by
      rw [exec_frameEnd_heard hc hr (State.receiverOn_of_member hs) (.inl ht), Bool.false_and, State.outOfFrame_of_not_armed (by simp [ht]),
        State.classify_sound now _ _ hline hother hok,
        State.soundBeat_listed (s := s.pastFrame) hstep (m := m) (p := p) (by rw [hu]; exact hm) hp, State.hear_listedBeat (.inl rfl), ← hv]
      exact congrArg Host.Outcome.next ht'
    refine ⟨t, hend, ?_, by rw [hinconsistent, hti], by rw [hforeign, hti]; rfl, ?_, ?_, ?_, ?_, ?_, ?_, fun h => hcomes ?_, fun h => ?_, ?_,
      hsct.trans hsc, ?_⟩
    · rw [hiut, hiu]
      exact State.afterHeader_iu_congr (by rw [hu]; rfl) (by rw [hu]; rfl) _ _ _ _
    · rw [hkept.summarySeen, hvct, hu]; rfl
    · rw [hkept.plan, hvct, hu]; rfl
    · rw [hkept.mark, hvct, hu]; rfl
    · rw [hkept.nextPhase, hvct, hu]; rfl
    · rw [hkept.phaseTaken, hvct, hu]; rfl
    · rw [hheard, hvct, hu]; rfl
    · rw [hvct, hu]; exact h
    · obtain ⟨hpointer, hsilence⟩ := hpassed (by rw [hvct, hu]; exact h)
      exact ⟨by rw [hpointer, hvct, hu]; rfl, hsilence⟩
    · exact hdut s (by rw [hdu, hu]; rfl)
    · rw [hhaltt, hhalt, hu]; rfl
  · have hstep : s.pastFrame.takeSummary c now false b.sender x = (s.pastFrame.adopt c now false b.sender x, .taken) := by
      rw [State.takeSummary_member (s := s.pastFrame) now false hs hm, State.memberSummary_adopted (s := s.pastFrame) now false hl hdigest hnew hown]
    obtain ⟨t, hend, hsc, hiu, hreports, hpointer, hrefixed, hheard, hforeign, hinconsistent, hdu⟩ :=
      exec_frameEnd_adopted hc hs hleave hct hr ht hline hok hb hother hq now hstep
    obtain ⟨hcopy, -, hcertainty⟩ :=
      (s.setIu { image := some x, copy := some x, certainty := some .synced, marks := .empty }).afterHeader_kept c.id b x q
    exact ⟨t, hend, hiu, by rw [hiu, hcopy]; rfl, fun he hcyc => by rw [hiu, hcertainty he hcyc]; rfl, hinconsistent, hforeign, hrefixed, hheard,
      hpointer, hdu, hsc, hreports⟩

end Sys2Proof.Machine
end

section
/-! PROOF. Summaries that a MEMBER turns away, leaves its group by, or ignores (R4, R17, R18, R83). -/

open Sys2Proof

namespace Sys2Proof.Machine

section Departure

variable {s u : State} {c : StationConfig} {x : Image} {b : Beat} {q : Nat} {line : List Bool} {known : Prop}

/-- A MEMBER leaves its group by the summary of a frame in its slots: what the frame end leaves. -/
theorem exec_frameEnd_departed (hc : s.cfg = some c) (hs : s.sc.state = .member) (hr : s.ti.receiving = some false) (ht : s.ti.tx = .idle)
    (hline : receiveLine line = .whole (.beat b true) true) (hok : b.structureOk c true = true) (hb : b.summary = some x)
    (hother : b.sender ≠ c.id) (hq : x.position b.sender = some q) (now : Instant)
    (hstep : s.pastFrame.takeSummary c now false b.sender x = (u, .taken))
    (hiu : u.iu = { image := some x, copy := none, certainty := none, marks := .empty })
    (htimed : u.ct.TimedBy s.ct c x now false b.sender q false known) (hslots : u.ct.state = .slots) (hdeparted : u.departedFrom s)
    (hti : u.ti = { s.ti with receiving := none }) (hlisten : u.sc.state = .listen) (hleave : u.sc.deferredLeave = false) :
    ∃ t : State, exec (.frameEnd now line) s = .next t ∧ u.Taken t c now b x q s.ct false known ∧
      (t.sc.state ≠ .fault → t.iu = (((s.setIu { image := some x, copy := none, certainty := none, marks := .empty }).setSc
        { s.sc with state := .listen }).afterHeader c.id b x q).iu) ∧
      t.cb.isEmpty ∧ t.cb.serial = s.cb.serial ∧ t.rt = { queue := [], inFlight := [], gapPending := true } ∧
      t.sq = { s.sq with inFlight := s.sq.inFlight.map (fun v => { v with discard := true }) } ∧
      t.halt = { outcome := .none, unacked := 0 } := by
  have himage : u.iu.image = some x := by rw [hiu]
  have hend := exec_frameEnd_taken hc hr rfl (State.receiverOn_of_member hs) ht hline hok hb hother hq hstep himage (by simp [hti, ht])
    hleave hslots htimed.pointer
  have htaken := State.passes_taken (c := c) (now := now) hother himage (by rw [hti]) (State.receiverOn_eq_true (.inl hlisten)) htimed
  generalize (u.headed c x q b).passes c now (q + 1) b.sender b.records = t at hend htaken
  obtain ⟨⟨hrequest, hhaltReq, hresumeReq, hhaltAck, hleaveItem, hserial⟩, hrt, hsq, hhalt, -⟩ := hdeparted
  obtain ⟨hrt', hcb'⟩ := htaken.kept (by simp [hlisten])
  obtain ⟨hsq', -, hhalt'⟩ := htaken.same
  refine ⟨t, hend, htaken, fun hfault => ?_, ?_, by rw [hcb', hserial], hrt'.trans hrt, hsq'.trans hsq, hhalt'.trans hhalt⟩
  · rw [htaken.iu hfault]
    exact State.afterHeader_iu_congr hiu (by simp [hlisten]) _ _ _ _
  · rw [hcb']
    exact ⟨hrequest, hhaltReq, hresumeReq, hhaltAck, hleaveItem⟩

/-- R67: a station whose holdoff runs arms no JOIN and goes to no FAULT. -/
theorem State.joinJudged.not_fault {t : State} {e : Instant} {seen : Bool} {sc : StationController} {ti : TrunkInterface}
    (h : t.joinJudged c x e seen sc ti) (hholdoff : sc.holdoff.isSome) : t.sc.state = sc.state := by
  cases hwanted : sc.joiningWanted with
  | false => rw [(h.1 hwanted).1]
  | true => rw [((h.2 hwanted).1 hholdoff).1]

end Departure

/-- Settles O42. -/
theorem summaryEvictsOrHasAnotherDigest : Obligations.SummaryEvictsOrHasAnotherDigest := by
  intro s c m x b now line hc hs hleave hm hct hr ht hline hok hb hother hl
  refine ⟨fun p hdigest hp => ?_, fun q hdigest hown hnew hq => ?_⟩
  · obtain ⟨u, hu⟩ : ∃ u, u = s.pastFrame.setIu { s.iu with certainty := some .doubtful } := ⟨_, rfl⟩
    have hstep : s.pastFrame.summaryStep c now false b = (u, .digestDiffers) := by
      rw [State.summaryStep_some hb, State.takeSummary_member (s := s.pastFrame) now false hs hm,
        State.memberSummary_digestDiffers (s := s.pastFrame) now false hl hdigest, State.goDoubtful_of_member (s := s.pastFrame) hs, hu]
      rfl
    obtain ⟨v, hv⟩ : ∃ v, v = (u.listedBeat c m p .digestDiffers b).hear b.sender := ⟨_, rfl⟩
    have hv' : v = (u.countInconsistent.goDoubtful).hear b.sender := by
      rw [hv, State.listedBeat, if_pos (by simp)]
    have hum : u.sc.state = .member := by rw [hu]; exact hs
    rw [State.countInconsistent_goDoubtful_eq, if_pos hum] at hv'
    have hvct : v.ct = s.ct.hears b.sender := by rw [hv', hu]; rfl
    have hsc : v.sc = s.sc := by rw [hv', hu]; rfl
    obtain ⟨t, ht', hsct, hiut, hhaltt, hinconsistent, hforeign, hheard, hkept, hcomes, hpassed, hdut⟩ :=
      Handled.concluded_member_listed (c := c) (v := v) (p := p) (origin := b.sender) (records := b.records) (by rw [hsc]; exact hs)
        (by rw [hv', hu]; simp [State.hear, ht]) (by rw [hsc]; exact hleave) (by rw [hvct]; exact hct) now
    have hend : exec (.frameEnd now line) s = .next t := by
      rw [exec_frameEnd_heard hc hr (State.receiverOn_of_member hs) (.inl ht), Bool.false_and, State.outOfFrame_of_not_armed (by simp [ht]),
        State.classify_sound now _ _ hline hother hok,
        State.soundBeat_listed (s := s.pastFrame) hstep (m := m) (p := p) (by rw [hu]; exact hm) hp, ← hv]
      exact congrArg Host.Outcome.next ht'
    refine ⟨t, hend, ?_, ?_, ?_, ?_, fun h => hcomes (by rw [hvct]; exact h), hdut s (by rw [hv', hu]; rfl), hsct.trans hsc⟩
    · rw [hiut, hv', hu]; rfl
    · rw [hinconsistent, hv', hu]; rfl
    · rw [hheard, hvct]; simp [CycleTimer.hears]
    · rw [hkept.summarySeen, hvct]; rfl
  · intro ended out
    obtain ⟨u, hu⟩ : ∃ u, u = s.pastFrame.evictedByAdoption c now false b.sender x := ⟨_, rfl⟩
    have hstep : s.pastFrame.takeSummary c now false b.sender x = (u, .taken) := by
      rw [State.takeSummary_member (s := s.pastFrame) now false hs hm, State.memberSummary_evicted (s := s.pastFrame) now false hl hdigest hnew hown, hu]
    obtain ⟨hiu, htimed, hdeparted, hti, hsc, hflag, hreports⟩ :=
      State.evictedByAdoption_spec (s := s.pastFrame) (c := c) now false hq
    rw [← hu] at hiu htimed hdeparted hti hsc hflag hreports
    have hsc : u.sc = out := hsc
    have hti : u.ti = { s.ti with receiving := none } := hti.trans (TrunkInterface.dropArmed_of_not_armed (by simp [ht]))
    have hended : u.ti.counts b x q = ended := by rw [hti]; rfl
    obtain ⟨t, hend, htaken, hiut, hempty, hserial, hrt, hsq, hhalt⟩ := exec_frameEnd_departed hc hs hr ht hline hok hb hother hq now hstep hiu htimed
      ((htimed.state.1 trivial).trans hct) (hdeparted.congr rfl rfl rfl) hti (by rw [hsc]) (by rw [hsc]; exact hleave)
    have hjudged : x.roster.length ≤ q + 1 → t.joinJudged c x now true out ended := fun hlast => by
      rw [← hsc, ← hended]
      exact htaken.judged hlast (by rw [hsc])
    have hfault : t.sc.state ≠ .fault := by
      rcases Nat.lt_or_ge (q + 1) x.roster.length with hslot | hlast
      · rw [(htaken.slot hslot).1, hsc]; exact nofun
      · rw [(hjudged hlast).not_fault rfl]; exact nofun
    obtain ⟨hrefixed, hheard⟩ := (htaken.timing hfault).1 trivial
    refine ⟨t, hend, fun hslot => ?_, fun hlast => ⟨(htaken.window hfault hlast).1, hjudged hlast⟩, htaken.reports.flag _ hflag,
      hreports.keeps htaken.reports, hiut hfault, by rw [htaken.inconsistent, hended], htaken.pointer hfault, hrefixed, ?_, hheard, hempty, hserial,
      hrt, hsq, hhalt, htaken.delivered s hfault hdeparted.2.2.2.2⟩
    · obtain ⟨hsc', hstate, -, hti'⟩ := htaken.slot hslot
      exact ⟨hstate, hsc'.trans hsc, (hti' (by rw [hsc]; exact nofun)).trans hended⟩
    · rw [(htaken.planned hfault).position]
      exact Image.position_of_not_lists hown

/-- Settles O43. -/
theorem foreignSummaryIsIgnoredOrYieldedTo : Obligations.ForeignSummaryIsIgnoredOrYieldedTo := by
  intro s c m x b now line q hc hs hleave hm hct hr ht hline hok hb hother hl
  refine ⟨fun hignored => ?_, fun hown hdoubtful hdigest hq => ?_, fun hown hlarger hq => ?_⟩
  · have hstep : s.pastFrame.summaryStep c now false b = (s.pastFrame, .ignored) := by
      rw [State.summaryStep_some hb, State.takeSummary_member (s := s.pastFrame) now false hs hm,
        State.memberSummary_ignored (s := s.pastFrame) now false hl hignored]
    rw [exec_frameEnd_heard hc hr (State.receiverOn_of_member hs) (.inl ht), Bool.false_and, State.outOfFrame_of_not_armed (by simp [ht]),
      State.classify_sound now _ _ hline hother hok,
      State.soundBeat_foreign (s := s.pastFrame) hstep (m := m) hm (Image.position_of_not_lists hl),
      Handled.concluded_restart (by simp [ht]) (by simpa using hleave) rfl (by simpa using hct), State.handedOn_nil]
    rfl
  · have hstep : s.pastFrame.takeSummary c now false b.sender x = (s.pastFrame.adopt c now false b.sender x, .taken) := by
      rw [State.takeSummary_member (s := s.pastFrame) now false hs hm,
        State.memberSummary_foreign_adopted (s := s.pastFrame) now false hl hown hdoubtful hdigest (Image.lists_of_position hq)]
    exact exec_frameEnd_adopted hc hs hleave hct hr ht hline hok hb hother hq now hstep
  · intro ended out
    obtain ⟨u, hu⟩ : ∃ u, u = s.pastFrame.yieldTo c now false b.sender x := ⟨_, rfl⟩
    have hstep : s.pastFrame.takeSummary c now false b.sender x = (u, .taken) := by
      rw [State.takeSummary_member (s := s.pastFrame) now false hs hm, State.memberSummary_yields (s := s.pastFrame) now false hl hown hlarger, hu]
    obtain ⟨hiu, htimed, hdeparted, hti, hsc, hremoved, hyielded⟩ :=
      State.yieldTo_spec (s := s.pastFrame) (c := c) now false hq
    rw [← hu] at hiu htimed hdeparted hti hsc hremoved hyielded
    have hsc : u.sc = out := hsc
    have hti : u.ti = { s.ti with receiving := none } := hti.trans (TrunkInterface.dropArmed_of_not_armed (by simp [ht]))
    have hended : u.ti.counts b x q = ended := by rw [hti]; rfl
    obtain ⟨t, hend, htaken, hiut, hempty, hserial, hrt, hsq, hhalt⟩ := exec_frameEnd_departed hc hs hr ht hline hok hb hother hq now hstep hiu htimed
      (htimed.state.2 id) (hdeparted.congr rfl rfl rfl) hti (by rw [hsc]) (by rw [hsc]; exact hleave)
    refine ⟨t, hend, htaken.reports.flag _ hremoved, htaken.reports.flag _ hyielded, fun hslot => ?_, fun hlast => ?_, fun hfault => ?_,
      fun hfault => ⟨hiut hfault, htaken.pointer hfault, (htaken.timing hfault).2 id, ?_, fun hlast => (htaken.window hfault hlast).1,
        htaken.delivered s hfault hdeparted.2.2.2.2⟩, hempty, hserial, hrt, hsq, hhalt⟩
    · obtain ⟨hsc', hstate, -, hti'⟩ := htaken.slot hslot
      exact ⟨hstate, hsc'.trans hsc, (hti' (by rw [hsc]; exact nofun)).trans hended⟩
    · rw [← hsc, ← hended]
      exact htaken.judged hlast (by rw [hsc])
    · exact (htaken.faulted hfault).2.2.trans hdeparted.2.2.2.2
    · rw [(htaken.planned hfault).position]
      exact Image.position_of_not_lists hown

end Sys2Proof.Machine
end

section
/-! PROOF. A summary ends the join of a JOINING station (R75, R76). -/

open Sys2Proof

namespace Sys2Proof.Machine

/-! ### The summary step at a JOINING station -/

section Rows

variable {s : State} {c : StationConfig} {x : Image} {sender : StationId} (now : Instant) (closing : Bool)

theorem State.takeSummary_confirms (hs : s.sc.state = .joining) (hown : x.lists c.id = true) (hd : x.digest = c.digest) :
    s.takeSummary c now closing sender x = (s.confirmJoin c now closing (s.listsSender sender) sender x, .taken) := by
  simp only [State.takeSummary, hs, hown, hd, and_self, if_true]

theorem State.takeSummary_fails (hs : s.sc.state = .joining) (hfailed : x.lists c.id = false ∨ x.digest ≠ c.digest) :
    s.takeSummary c now closing sender x =
      ((s.trackSummary c now closing (s.listsSender sender) sender x).failAttempt c now, .taken) := by
  have hnot : ¬ (x.lists c.id = true ∧ x.digest = c.digest) := by
    rintro ⟨hown, hd⟩
    rcases hfailed with h | h
    · rw [hown] at h
      cases h
    · exact h hd
  simp only [State.takeSummary, hs, if_neg hnot]

/-- A failed attempt that is neither the eighth nor a departing station's (R75). -/
theorem State.takeSummary_retries (hs : s.sc.state = .joining) (hfailed : x.lists c.id = false ∨ x.digest ≠ c.digest)
    (hd : s.sc.departing = false) (hmore : s.sc.attempts < 7) :
    s.takeSummary c now closing sender x =
      ((s.trackSummary c now closing (s.listsSender sender) sender x).setSc { s.sc with
        state := .listen, attempts := s.sc.attempts + 1,
        founding := some (now + (4 + c.id.val) * (c.period * unitsPerMicrosecond)) }, .taken) := by
  rw [State.takeSummary_fails now closing hs hfailed, State.failAttempt_listens c now (by simpa using hd) (by simpa using hmore)]
  simp

/-- The eighth failed attempt leads to FAULT(JOIN_FAILED) (R75). -/
theorem State.takeSummary_exhausted (hs : s.sc.state = .joining) (hfailed : x.lists c.id = false ∨ x.digest ≠ c.digest)
    (hd : s.sc.departing = false) (hlast : 7 ≤ s.sc.attempts) :
    ∃ u, s.takeSummary c now closing sender x = (u, .taken) ∧ u.sc.state = .fault ∧ u.sc.faultReason = some .joinFailed ∧
      u.sc.attempts = s.sc.attempts + 1 ∧ u.sc.founding = none ∧ u.sc.holdoff = none ∧ u.sc.deferredLeave = false ∧ u.flag .fault = true ∧
      u.iu = .empty ∧ u.ct = .stopped ∧ u.ti.tx = .idle ∧ u.ti.receiving = none ∧ u.ti.foreign = s.ti.foreign ∧
      u.ti.inconsistent = s.ti.inconsistent ∧ u.du = s.du ∧ u.rm = s.rm ∧ u.halt = s.halt := by
  obtain ⟨v, hv⟩ : ∃ v, v = s.trackSummary c now closing (s.listsSender sender) sender x := ⟨_, rfl⟩
  have hsc : v.sc = s.sc := by rw [hv]; simp
  have hu := State.failAttempt_exhausted (s := v) c now (by rw [hsc]; exact hd) (by rw [hsc]; exact hlast)
  have hnot : (v.setSc { v.sc with attempts := v.sc.attempts + 1 }).sc.state ≠ .member := by simp [hsc, hs]
  rw [State.takeSummary_fails now closing hs hfailed, ← hv, hu, State.enterFault_eq_of_not_member hnot]
  refine ⟨_, rfl, rfl, rfl, ?_, rfl, rfl, rfl, State.flag_raise_self _ _, rfl, rfl, rfl, rfl, ?_, ?_, ?_, ?_, ?_⟩ <;>
    simp [State.offTrunk, hv]

/-- A departing station whose join failed is IDLE, and has made no attempt (R76). -/
theorem State.takeSummary_departs (hs : s.sc.state = .joining) (hfailed : x.lists c.id = false ∨ x.digest ≠ c.digest)
    (hd : s.sc.departing = true) :
    ∃ u, s.takeSummary c now closing sender x = (u, .taken) ∧
      u.sc = { s.sc with state := .idle, departing := false, founding := none, deferredLeave := false } ∧ u.iu = .empty ∧ u.ct = .stopped ∧
      u.ti.tx = .idle ∧ u.ti.receiving = none ∧ u.ti.foreign = s.ti.foreign ∧ u.ti.inconsistent = s.ti.inconsistent ∧ u.du = s.du ∧
      u.rm = s.rm ∧ u.halt = s.halt := by
  obtain ⟨v, hv⟩ : ∃ v, v = s.trackSummary c now closing (s.listsSender sender) sender x := ⟨_, rfl⟩
  have hsc : v.sc = s.sc := by rw [hv]; simp
  rw [State.takeSummary_fails now closing hs hfailed, ← hv, State.failAttempt_departing (s := v) c now (by rw [hsc]; exact hd)]
  refine ⟨_, rfl, ?_, rfl, rfl, rfl, rfl, ?_, ?_, ?_, ?_, ?_⟩ <;> simp [State.enterIdle, State.offTrunk, hv]

end Rows

section Unplaced

variable {s u : State} {c : StationConfig} {x : Image} {b : Beat} {line : List Bool} {now : Instant} {closing inWindow : Bool}

/-- A summary that takes the station off the trunk ends the frame: no cycle end, no count, no record (log 38). -/
theorem State.concluded_unplaced (hline : receiveLine line = .whole (.beat b true) true) (hok : b.structureOk c true = true)
    (hb : b.summary = some x) (hother : b.sender ≠ c.id) (hstep : s.takeSummary c now closing b.sender x = (u, .taken)) (hiu : u.iu = .empty)
    (hct : u.ct = .stopped) (htx : u.ti.tx = .idle) (hleave : u.sc.deferredLeave = false) :
    (s.classify c now closing inWindow line).concluded c now closing = u := by
  rw [State.classify_sound now _ _ hline hother hok,
    State.soundBeat_unplaced ((State.summaryStep_some hb c now closing).trans hstep) (by rw [hiu]; rfl)]
  exact Handled.concluded_off (by simp [htx]) hleave hct rfl

end Unplaced

/-- Settles O45. -/
theorem summaryEndsTheJoin : Obligations.SummaryEndsTheJoin := by
  intro s c x b now line q hc hs hleave hct hr ht hline hok hb hother hq failed known timed ended delivered
  have hon : s.receiverOn = true := State.receiverOn_eq_true (.inr hs)
  have hknown : known ↔ s.listsSender b.sender = true ∧ s.ct.state ≠ .untimed := by
    rw [State.listsSender_iff]
    exact ⟨fun h => ⟨h, by simp [hct]⟩, fun h => h.1⟩
  have htimed : ∀ {u t : State} {suppressed : Bool}, u.Taken t c now b x q s.ct suppressed (s.listsSender b.sender = true ∧ s.ct.state ≠ .untimed) →
      t.sc.state ≠ .fault → timed t.ct suppressed := fun htaken hfault =>
    ⟨htaken.pointer hfault, fun h => (htaken.timing hfault).1 (hknown.1 h), fun h => (htaken.timing hfault).2 fun h' => h (hknown.2 h'),
      fun hlast => ⟨(htaken.window hfault hlast).1, (htaken.window hfault hlast).2.1⟩⟩
  have hunplaced : ∀ {u : State}, s.pastFrame.takeSummary c now false b.sender x = (u, .taken) → u.iu = .empty → u.ct = .stopped →
      u.ti.tx = .idle → u.sc.deferredLeave = false → exec (.frameEnd now line) s = .next u := fun hstep hiu hct' htx hleave' => by
    rw [exec_frameEnd_heard hc hr hon (.inl ht), Bool.false_and, State.outOfFrame_of_not_armed (by simp [ht]),
      State.concluded_unplaced hline hok hb hother hstep hiu hct' htx hleave']
  have hslots : ∀ {u : State} {suppressed : Bool}, u.ct.TimedBy s.ct c x now false b.sender q suppressed
      (s.listsSender b.sender = true ∧ s.ct.state ≠ .untimed) → u.ct.state = .slots := fun {u suppressed} h => by
    by_cases hk : s.listsSender b.sender = true ∧ s.ct.state ≠ .untimed
    · exact (h.state.1 hk).trans hct
    · exact h.state.2 hk
  refine ⟨fun hown hdigest => ?_, fun hfailed hd hmore => ?_, fun hfailed hd hlast => ?_, fun hfailed hd => ?_⟩
  · obtain ⟨u, hu⟩ : ∃ u, u = s.pastFrame.confirmJoin c now false (s.listsSender b.sender) b.sender x := ⟨_, rfl⟩
    have hstep : s.pastFrame.takeSummary c now false b.sender x = (u, .taken) := by
      rw [State.takeSummary_confirms (s := s.pastFrame) now false hs hown hdigest, hu]
      rfl
    obtain ⟨hiu, htimed', hsc, hjoined, hrm, hhalt⟩ :=
      State.confirmJoin_spec (s := s.pastFrame) (c := c) now false (s.listsSender b.sender) hq
    rw [← hu] at hiu htimed' hsc hjoined hrm hhalt
    have hsc : u.sc = { s.sc with state := .member, attempts := 0 } := hsc
    have hti : u.ti = { s.ti with receiving := none } := by rw [hu]; simp
    have himage : u.iu.image = some x := by rw [hiu]
    have hend := exec_frameEnd_taken hc hr rfl hon ht hline hok hb hother hq hstep himage (by simp [hti, ht]) (by rw [hsc]; exact hleave)
      (hslots htimed') htimed'.pointer
    have htaken := State.passes_taken (c := c) (now := now) hother himage (by rw [hti]) (State.receiverOn_of_member (by rw [hsc])) htimed'
    generalize (u.headed c x q b).passes c now (q + 1) b.sender b.records = t at hend htaken
    have hsct : t.sc = { s.sc with state := .member, attempts := 0 } := (htaken.stays (by rw [hsc]; exact nofun)).trans hsc
    have hfault : t.sc.state ≠ .fault := by rw [hsct]; exact nofun
    have hended : u.ti.counts b x q = ended := by rw [hti]; rfl
    obtain ⟨hcopy, -, hcertainty⟩ := u.afterHeader_kept c.id b x q
    refine ⟨t, hend, hsct, ?_, ?_, fun he hcyc => ?_, htaken.reports.flag _ hjoined, htaken.same.2.1.trans hrm, htaken.same.2.2.trans hhalt,
      htimed htaken hfault, by rw [htaken.inconsistent, hended], by rw [htaken.foreign, hti], ?_⟩
    · rw [htaken.iu hfault]
      exact State.afterHeader_iu_congr hiu (by simp [hsc]) _ _ _ _
    · rw [htaken.iu hfault, hcopy, hiu]
    · rw [htaken.iu hfault, hcertainty he hcyc, hiu]
    · exact htaken.delivered s hfault (by rw [hu]; simp)
  · intro out
    have hstep := State.takeSummary_retries (s := s.pastFrame) (sender := b.sender) now false hs hfailed hd hmore
    obtain ⟨hiu, htimed'⟩ := State.trackSummary_spec (s := s.pastFrame) (c := c) now false (s.listsSender b.sender) hq
    obtain ⟨u, hu⟩ : ∃ u, u = (s.pastFrame.trackSummary c now false (s.listsSender b.sender) b.sender x).setSc out := ⟨_, rfl⟩
    have hstep : s.pastFrame.takeSummary c now false b.sender x = (u, .taken) := by rw [hstep, hu]; rfl
    have hiu : u.iu = { image := some x, copy := none, certainty := none, marks := .empty } := by rw [hu]; exact hiu
    have htimed' : u.ct.TimedBy s.ct c x now false b.sender q false (s.listsSender b.sender = true ∧ s.ct.state ≠ .untimed) := by
      rw [hu]; exact htimed'
    have hsc : u.sc = out := by rw [hu]; rfl
    have hti : u.ti = { s.ti with receiving := none } := by rw [hu]; simp
    have hdu : u.du = s.du := by rw [hu]; simp
    have himage : u.iu.image = some x := by rw [hiu]
    have hend := exec_frameEnd_taken hc hr rfl hon ht hline hok hb hother hq hstep himage (by simp [hti, ht]) (by rw [hsc]; exact hleave)
      (hslots htimed') htimed'.pointer
    have htaken := State.passes_taken (c := c) (now := now) hother himage (by rw [hti]) (State.receiverOn_eq_true (.inl (by rw [hsc]))) htimed'
    generalize (u.headed c x q b).passes c now (q + 1) b.sender b.records = t at hend htaken
    have hended : u.ti.counts b x q = ended := by rw [hti]; rfl
    refine ⟨t, hend, fun hslot => ?_, fun hlast => ?_, fun hfault => (htaken.faulted hfault).2.2.trans hdu,
      fun hfault => ⟨?_, htimed htaken hfault, by rw [htaken.inconsistent, hended], htaken.delivered s hfault hdu⟩, ?_, ?_⟩
    · obtain ⟨hsc', hstate, -, hti'⟩ := htaken.slot hslot
      exact ⟨hstate, hsc'.trans hsc, (hti' (by rw [hsc]; exact nofun)).trans hended⟩
    · rw [← hsc, ← hended]
      exact htaken.judged hlast (by rw [hsc])
    · rw [htaken.iu hfault]
      exact State.afterHeader_iu_congr hiu (by simp [hsc, out]) _ _ _ _
    · rw [htaken.same.2.1, hu]; simp
    · rw [htaken.same.2.2, hu]; simp
  · obtain ⟨u, hstep, hstate, hreason, hattempts, hfounding, hholdoff, hleave', hflag, hiu, hct', htx, hreceiving, hforeign, hinconsistent, hdu,
      hrm, hhalt⟩ := State.takeSummary_exhausted (s := s.pastFrame) (sender := b.sender) now false hs hfailed hd hlast
    exact ⟨u, hunplaced hstep hiu hct' htx hleave', hstate, hreason, hattempts, hfounding, hholdoff, hflag, hiu, hct', htx, hreceiving, hforeign,
      hinconsistent, hdu, hrm, hhalt⟩
  · obtain ⟨u, hstep, hsc, hiu, hct', htx, hreceiving, hforeign, hinconsistent, hdu, hrm, hhalt⟩ :=
      State.takeSummary_departs (s := s.pastFrame) (sender := b.sender) now false hs hfailed hd
    have hsc' : u.sc = { s.sc with state := .idle, departing := false, founding := none } := by rw [hsc, ← hleave]; rfl
    exact ⟨u, hunplaced hstep hiu hct' htx (by rw [hsc]), hsc', hiu, hct', htx, hreceiving, hforeign, hinconsistent, hdu, hrm, hhalt⟩

end Sys2Proof.Machine
end

section
/-! PROOF. A BEAT with a summary ends in the join window: the summary step comes first, and the cycle end of the image that it leaves after it (R31, R55). -/

open Sys2Proof

namespace Sys2Proof.Machine

/-! ### The header and the items, and the rest of the station -/

section Commute

variable (s : State) (own sender : StationId)

theorem State.applyItem_setCt (item : Item) (x : CycleTimer) :
    (s.setCt x).applyItem own sender item = (s.applyItem own sender item).setCt x := by
  unfold State.applyItem
  cases hm : s.iu.image with
  | none => simp only [State.setCt_iu, hm]
  | some m =>
    by_cases hs : s.sc.state = .member
    · simp only [State.setCt_iu, hm, State.setIu_sc, State.setCt_sc, hs, if_true, State.reportItem]
      (repeat' split) <;> rfl
    · simp only [State.setCt_iu, hm, State.setIu_sc, State.setCt_sc, hs, if_false]
      rfl

theorem State.applyItems_setCt (items : List Item) (x : CycleTimer) :
    (s.setCt x).applyItems own sender items = (s.applyItems own sender items).setCt x := by
  unfold State.applyItems
  induction items generalizing s with
  | nil => rfl
  | cons item items ih =>
    simp only [List.foldl_cons, State.applyItem_setCt, ih]

/-- Header and items have nothing to do with trunk interface and cycle timer. -/
theorem State.afterHeader_setTi_setCt (b : Beat) (m : Image) (p : Nat) (x : TrunkInterface) (t : CycleTimer) :
    ((s.setTi x).setCt t).afterHeader own b m p = ((s.afterHeader own b m p).setTi x).setCt t := by
  unfold State.afterHeader
  by_cases hheader : b.epoch ≠ m.epoch ∨ b.cycle ≠ m.cycle
  · rw [if_pos hheader, if_pos hheader]
    by_cases hs : s.sc.state = .member
    · rw [if_pos hs, if_pos (by simpa using hs)]
      rfl
    · rw [if_neg hs, if_neg (by simpa using hs)]
  · rw [if_neg hheader, if_neg hheader]
    split
    · rfl
    · rw [State.applyItems_setCt, State.applyItems_setTi]

end Commute

/-! ### The frame that closes the window -/

section Closes

variable {s u : State} {c : StationConfig} {b : Beat} {m x : Image} {q : Nat} {line : List Bool} {now : Instant} {before : CycleTimer}
  {suppressed : Bool} {known : Prop}

theorem State.headed_tx (u : State) (c : StationConfig) (m : Image) (p : Nat) (b : Beat) : (u.headed c m p b).ti.tx = u.ti.tx := by
  unfold State.headed
  simp only [State.hear_unchanged, State.afterHeader_unchanged]
  split <;> rfl

theorem State.ReadyToClose.headed (hready : u.ReadyToClose c) (m : Image) (p : Nat) (b : Beat) : (u.headed c m p b).ReadyToClose c := by
  obtain ⟨hsc, hct, -, -, -, -, -, -, hcfg, hiu, -⟩ := u.headed_spec c m p b
  exact hready.congr hcfg (by rw [hct]; rfl) (by rw [hiu]; exact (u.afterHeader_kept c.id b m p).2.1) hsc (u.headed_tx c m p b)

/-- The summary was confirmed or taken: the cycle end of the image that it left comes next. -/
theorem State.closesWindowWith_of_summary {outcome : SummaryOutcome} (hquiet : s.quiet) (hc : s.cfg = some c) (hon : s.receiverOn = true)
    (hr : s.ti.receiving = some true) (hct : s.ct.state = .window) (hline : receiveLine line = .whole (.beat b true) true)
    (hok : b.structureOk c true = true) (hb : b.summary = some x) (hother : b.sender ≠ c.id)
    (hstep : (s.setTi s.ti.pastFrame).takeSummary c now true b.sender x = (u, outcome)) (houtcome : outcome = .confirmed ∨ outcome = .taken)
    (hm : u.iu.image = some m) (hq : m.position b.sender = some q) (hready : u.ReadyToClose c) :
    s.closesWindowWith now line b.sender (b.records.filter (accepts c b.sender)) ((u.headed c m q b).windowAt (some now)) := by
  have hend := exec_frameEnd_closing hquiet hc hon hr hct now line
  rw [State.classify_sound now _ _ hline hother hok, State.soundBeat_listed ((State.summaryStep_some hb c now true).trans hstep) hm hq,
    State.hear_listedBeat houtcome] at hend
  exact Handled.closesWindowWith
    (h := { state := u.headed c m q b, timing := if outcome = .taken then .set else .listed q, origin := b.sender, records := b.records })
    (hready.headed m q b) hend

/-- What a summary that was taken leaves as the window closes. -/
structure State.TakenClosing (u w : State) (c : StationConfig) (now : Instant) (b : Beat) (x : Image) (q : Nat) (before : CycleTimer)
    (suppressed : Bool) (known : Prop) : Prop where
  closesBy : w.ct.closesBy x.roster.length now
  timing : (known → w.ct.refixed before c x now suppressed ∧ w.ct.heard = IdSet.add before.heard b.sender) ∧
    (¬ known → w.ct.takenUp c x b.sender q suppressed)
  sc : w.sc = u.sc
  iu : w.iu = (u.afterHeader c.id b x q).iu
  ti : w.ti = u.ti.counts b x q
  blocks : w.cb = u.cb ∧ w.rt = u.rt ∧ w.sq = u.sq ∧ w.rm = u.rm ∧ w.du = u.du ∧ w.halt = u.halt
  reports : u.KeepsReportsOf x w
  silent : u.sc.state ≠ .member → w.cp = u.cp

/-- Only a MEMBER reports what items do. -/
theorem State.applyItems_cp_of_not_member {s : State} (hs : s.sc.state ≠ .member) (own sender : StationId) (items : List Item) :
    (s.applyItems own sender items).cp = s.cp := by
  unfold State.applyItems
  induction items generalizing s with
  | nil => rfl
  | cons item items ih =>
    have hstep : (s.applyItem own sender item).cp = s.cp := by
      unfold State.applyItem
      split
      · simp [hs]
      · rfl
    exact (ih (by simpa using hs)).trans hstep

theorem State.headed_cp_of_not_member {u : State} (hs : u.sc.state ≠ .member) (c : StationConfig) (m : Image) (p : Nat) (b : Beat) :
    (u.headed c m p b).cp = u.cp := by
  obtain ⟨v, hv⟩ : ∃ v, v = if b.disagrees m p then u.countInconsistent else u := ⟨_, rfl⟩
  have hkept : v.cp = u.cp ∧ v.sc = u.sc := by
    rw [hv]
    split <;> simp
  rw [State.headed, ← hv, State.hear, State.setCt_cp, ← hkept.1]
  unfold State.afterHeader
  (repeat' split)
  · rfl
  · rfl
  · rfl
  · exact State.applyItems_cp_of_not_member (by rw [hkept.2]; exact hs) c.id b.sender b.items

theorem State.headed_takenClosing (hother : b.sender ≠ c.id) (hx : u.iu.image = some x) (hr : u.ti.receiving = none)
    (htimed : u.ct.TimedBy before c x now true b.sender q suppressed known) (hwindow : u.ct.state = .window) :
    u.TakenClosing ((u.headed c x q b).windowAt (some now)) c now b x q before suppressed known := by
  obtain ⟨hsc, hct, hcb, hsq, hrm, hrt, hdu, hhalt, hcfg, hiu, hti⟩ := u.headed_spec c x q b
  have hwct : ((u.headed c x q b).windowAt (some now)).ct = { u.ct.hears b.sender with window := some now } := by
    rw [State.windowAt, State.setCt_ct, hct]
  have hafter := htimed.after (t' := { u.ct.hears b.sender with window := some now }) ⟨rfl, rfl, rfl, rfl, rfl, rfl⟩ rfl
  have hheaded : u.KeepsReportsOf x (u.headed c x q b) := .headed hother hx
  refine ⟨?_, ?_, hsc, hiu, hti hr, ⟨hcb, hrt, hsq, hrm, hdu, hhalt⟩, hheaded.trans ?_, fun hs =>
    State.headed_cp_of_not_member hs c x q b⟩
  · rw [hwct]
    exact ⟨hwindow, rfl, htimed.pointer⟩
  · rw [hwct]
    exact ⟨hafter.1, hafter.2.1⟩
  · exact (State.KeepsReports.of_cp (by simp [State.windowAt])).keepsReportsOf

end Closes

/-! ### The classes of such a frame, and the outcomes of its summary -/

/-- A BEAT with the summary `x` ends in the join window of `s`, the transmitter quiet; `v` is the station once receiver and transmitter have left the frame. -/
structure State.SummaryInWindow (s v : State) (c : StationConfig) (m x : Image) (b : Beat) (now : Instant) (line : List Bool) : Prop where
  quiet : s.quiet
  past : v = s.setTi s.ti.pastFrame
  cfg : s.cfg = some c
  image : s.iu.image = some m
  window : s.ct.state = .window
  receiving : s.ti.receiving = some true
  heardAs : receiveLine line = .whole (.beat b true) true
  sound : b.structureOk c true = true
  summary : b.summary = some x
  other : b.sender ≠ c.id

/-- The sender was known: R37 fixes the timing of `before` anew, and the window closes at `now`. -/
def CycleTimer.keptInWindow (t before : CycleTimer) (c : StationConfig) (x : Image) (now : Instant) (sender : StationId) (suppressed : Bool) : Prop :=
  t.closesBy x.roster.length now ∧ t.refixed before c x now suppressed ∧ t.heard = IdSet.add before.heard sender

/-- The sender was not known: its timing is taken up (R38), and the window closes at `now`. -/
def CycleTimer.freshInWindow (t : CycleTimer) (c : StationConfig) (x : Image) (now : Instant) (sender : StationId) (q : Nat) (suppressed : Bool) :
    Prop :=
  t.closesBy x.roster.length now ∧ t.takenUp c x sender q suppressed

/-- The one or the other, as the image `m` lists the sender or not. -/
def CycleTimer.timedInWindow (t before : CycleTimer) (c : StationConfig) (m x : Image) (now : Instant) (sender : StationId) (q : Nat)
    (suppressed : Bool) : Prop :=
  (m.lists sender = true → t.keptInWindow before c x now sender suppressed) ∧
    (m.lists sender = false → t.freshInWindow c x now sender q suppressed)

/-- What the frame leaves of the blocks that the summary does not concern. -/
def State.staysInWindow (u s : State) (x : Image) (b : Beat) (q : Nat) : Prop :=
  u.cb = s.cb ∧ u.rt = s.rt ∧ u.sq = s.sq ∧ u.du = s.du ∧ u.ti = s.ti.pastFrame.counts b x q

/-- The image unit `i` once the station has the state `state`, with header and items of the frame. -/
def State.imageAfter (s : State) (state : StationState) (i : ImageUnit) (own : StationId) (b : Beat) (x : Image) (q : Nat) : ImageUnit :=
  (((s.setIu i).setSc { s.sc with state }).afterHeader own b x q).iu

theorem TrunkInterface.pastFrame_kept (t : TrunkInterface) :
    t.pastFrame.receiving = none ∧ t.pastFrame.foreign = t.foreign ∧ t.pastFrame.inconsistent = t.inconsistent := by
  unfold TrunkInterface.pastFrame
  split <;> exact ⟨rfl, rfl, rfl⟩

theorem CycleTimer.TimedBy.window {t before : CycleTimer} {c : StationConfig} {x : Image} {now : Instant} {sender : StationId} {q : Nat}
    {suppressed : Bool} {known : Prop} (htimed : t.TimedBy before c x now true sender q suppressed known)
    (hbefore : before.state = .window) : t.state = .window := by
  by_cases hk : known
  · exact (htimed.state.1 hk).trans hbefore
  · exact htimed.state.2 hk

namespace State.SummaryInWindow

section Facts

variable {s v u w : State} {before : CycleTimer} {c : StationConfig} {m x k : Image} {b : Beat} {now : Instant} {line : List Bool} {p q : Nat} {outcome : SummaryOutcome}
  {suppressed : Bool} {known : Prop} (h : s.SummaryInWindow v c m x b now line)
include h

theorem sc_eq : v.sc = s.sc := by rw [h.past]; rfl

theorem iu_eq : v.iu = s.iu := by rw [h.past]; rfl

theorem ct_eq : v.ct = s.ct := by rw [h.past]; rfl

theorem ti_eq : v.ti = s.ti.pastFrame := by rw [h.past]; rfl

theorem image_eq : v.iu.image = some m := by rw [h.iu_eq, h.image]

theorem receiving_none : v.ti.receiving = none := by rw [h.ti_eq, (TrunkInterface.pastFrame_kept _).1]

theorem not_armed : v.ti.tx ≠ .armed := by
  rw [h.ti_eq]
  exact (State.quiet_pastFrame h.quiet).1

theorem ready (hon : s.receiverOn = true) : v.ReadyToClose c := by
  rw [h.past]
  exact State.readyToClose_pastFrame h.quiet h.cfg hon (by simp [h.image]) h.window

/-- A station that the summary step leaves on the trunk closes its window. -/
theorem readyOf (hcfg : u.cfg = v.cfg) (hw : u.ct.state = .window) (himage : u.iu.image.isSome) (hon : u.receiverOn = true) (hti : u.ti = v.ti)
    (hleave : u.sc.deferredLeave = s.sc.deferredLeave) : u.ReadyToClose c := by
  refine ⟨hcfg.trans (by rw [h.past]; exact h.cfg), hw, himage, hon, by rw [hti]; exact h.not_armed, ?_⟩
  rw [hti, hleave, h.ti_eq]
  exact (State.quiet_pastFrame h.quiet).2

theorem exec_eq (hon : s.receiverOn = true) :
    exec (.frameEnd now line) s = .next ((v.classify c now true true line).concluded c now true) := by
  rw [h.past]
  exact exec_frameEnd_closing h.quiet h.cfg hon h.receiving h.window now line

theorem closes (hon : s.receiverOn = true) (hstep : v.takeSummary c now true b.sender x = (u, outcome))
    (houtcome : outcome = .confirmed ∨ outcome = .taken) (hk : u.iu.image = some k) (hp : k.position b.sender = some p) (hready : u.ReadyToClose c) :
    s.closesWindowWith now line b.sender (b.records.filter (accepts c b.sender)) ((u.headed c k p b).windowAt (some now)) := by
  rw [h.past] at hstep
  exact State.closesWindowWith_of_summary h.quiet h.cfg hon h.receiving h.window h.heardAs h.sound h.summary h.other hstep houtcome hk hp hready

theorem known_iff : (v.listsSender b.sender = true ∧ v.ct.state ≠ .untimed) ↔ m.lists b.sender = true := by
  rw [State.listsSender_iff, h.image_eq, h.ct_eq, h.window]
  simp

theorem kept (htaken : u.TakenClosing w c now b x q v.ct suppressed known) (hknown : known) :
    w.ct.keptInWindow s.ct c x now b.sender suppressed := by
  obtain ⟨hrefixed, hheard⟩ := htaken.timing.1 hknown
  rw [h.ct_eq] at hrefixed hheard
  exact ⟨htaken.closesBy, hrefixed, hheard⟩

omit h in
theorem fresh (htaken : u.TakenClosing w c now b x q before suppressed known) (hknown : ¬ known) :
    w.ct.freshInWindow c x now b.sender q suppressed :=
  ⟨htaken.closesBy, htaken.timing.2 hknown⟩

theorem timed (htaken : u.TakenClosing w c now b x q v.ct suppressed (v.listsSender b.sender = true ∧ v.ct.state ≠ .untimed)) :
    w.ct.timedInWindow s.ct c m x now b.sender q suppressed :=
  ⟨fun hl => h.kept htaken (h.known_iff.2 hl), fun hl => fresh htaken fun hk => by simp [h.known_iff.1 hk] at hl⟩

theorem stays (htaken : u.TakenClosing w c now b x q v.ct suppressed known) (hcb : u.cb = v.cb) (hrt : u.rt = v.rt) (hsq : u.sq = v.sq)
    (hdu : u.du = v.du) (hti : u.ti = v.ti) : w.staysInWindow s x b q := by
  obtain ⟨hcb', hrt', hsq', -, hdu', -⟩ := htaken.blocks
  refine ⟨hcb'.trans ?_, hrt'.trans ?_, hsq'.trans ?_, hdu'.trans ?_, by rw [htaken.ti, hti, h.ti_eq]⟩
  · rw [hcb, h.past]; rfl
  · rw [hrt, h.past]; rfl
  · rw [hsq, h.past]; rfl
  · rw [hdu, h.past]; rfl

end Facts

section Outcomes

variable {s v : State} {c : StationConfig} {m x : Image} {b : Beat} {now : Instant} {line : List Bool} {p q : Nat}
  (h : s.SummaryInWindow v c m x b now line)
include h

/-- R4: another digest turns the frame away and makes the MEMBER DOUBTFUL. -/
theorem digestDiffers (hs : s.sc.state = .member) (hp : m.position b.sender = some p) (hdigest : x.digest ≠ c.digest) :
    s.closesWindowWith now line b.sender (b.records.filter (accepts c b.sender))
      (((s.setTi { s.ti.pastFrame with inconsistent := saturate255 s.ti.inconsistent }).setIu { s.iu with certainty := some .doubtful }).setCt
        { s.ct with window := some now, heard := IdSet.add s.ct.heard b.sender }) := by
  have hon : s.receiverOn = true := State.receiverOn_of_member hs
  have hvm : v.sc.state = .member := by rw [h.sc_eq, hs]
  obtain ⟨u, hu⟩ : ∃ u, u = v.setIu { s.iu with certainty := some .doubtful } := ⟨_, rfl⟩
  have hstep : v.summaryStep c now true b = (u, .digestDiffers) := by
    rw [State.summaryStep_some h.summary, State.takeSummary_member now true hvm h.image_eq,
      State.memberSummary_digestDiffers now true (Image.lists_of_position hp) hdigest, State.goDoubtful_of_member hvm, hu, h.iu_eq]
  have hum : u.sc.state = .member := by rw [hu]; exact hvm
  obtain ⟨w, hw⟩ : ∃ w, w = (u.listedBeat c m p .digestDiffers b).hear b.sender := ⟨_, rfl⟩
  have hw' : w = ((u.setTi { u.ti with inconsistent := saturate255 u.ti.inconsistent }).setIu
      { u.iu with certainty := some .doubtful }).hear b.sender := by
    rw [hw, State.listedBeat, if_pos (by simp), State.countInconsistent_goDoubtful_eq, if_pos hum]
  have hexec := h.exec_eq hon
  rw [State.classify_sound now _ _ h.heardAs h.other h.sound, State.soundBeat_listed hstep (m := m) (p := p) (by rw [hu]; exact h.image) hp, ← hw]
    at hexec
  have himage : w.iu.image.isSome = v.iu.image.isSome := by rw [hw', hu, h.iu_eq]; rfl
  have hclosed := Handled.closesWindowWith (h := { state := w, timing := .listed p, origin := b.sender, records := b.records })
    ((h.ready hon).congr (by rw [hw', hu]; rfl) (by rw [hw', hu]; rfl) himage (by rw [hw', hu]; rfl) (by rw [hw', hu]; rfl)) hexec
  have hresult : w.windowAt (some now) = ((s.setTi { s.ti.pastFrame with inconsistent := saturate255 s.ti.inconsistent }).setIu
      { s.iu with certainty := some .doubtful }).setCt { s.ct with window := some now, heard := IdSet.add s.ct.heard b.sender } := by
    rw [hw', hu, h.past, ← (TrunkInterface.pastFrame_kept s.ti).2.2]
    rfl
  exact hresult ▸ hclosed

/-- R10: the MEMBER confirms its copy. -/
theorem confirmed (hs : s.sc.state = .member) (hp : m.position b.sender = some p) (hdigest : x.digest = c.digest)
    (hsynced : s.iu.certainty = some .synced) (hcopy : s.iu.copy = some x) :
    s.closesWindowWith now line b.sender (b.records.filter (accepts c b.sender))
      (((s.afterHeader c.id b m p).setTi (s.ti.pastFrame.counts b m p)).setCt
        { s.ct with window := some now, heard := IdSet.add s.ct.heard b.sender, summarySeen := true }) := by
  have hstep : v.takeSummary c now true b.sender x = (v.setCt { v.ct with summarySeen := true }, .confirmed) := by
    rw [State.takeSummary_member now true (by rw [h.sc_eq, hs]) h.image_eq,
      State.memberSummary_confirmed now true (Image.lists_of_position hp) hdigest (by rw [h.iu_eq, hsynced]) (by rw [h.iu_eq, hcopy])]
  have hon : s.receiverOn = true := State.receiverOn_of_member hs
  have hclosed := h.closes hon hstep (.inl rfl) h.image_eq hp ((h.ready hon).congr rfl rfl rfl rfl rfl)
  have hcounted : (if b.disagrees m p then (v.setCt { v.ct with summarySeen := true }).countInconsistent
        else v.setCt { v.ct with summarySeen := true }) =
      (s.setTi (s.ti.pastFrame.counts b m p)).setCt { s.ct with summarySeen := true } := by
    rw [h.past]
    have hcount : s.ti.pastFrame.counts b m p = { s.ti.pastFrame with
        receiving := none
        inconsistent := if b.disagrees m p = true then saturate255 s.ti.pastFrame.inconsistent else s.ti.pastFrame.inconsistent } := rfl
    rw [hcount, ← (TrunkInterface.pastFrame_kept s.ti).1]
    split <;> rfl
  have hresult : ((v.setCt { v.ct with summarySeen := true }).headed c m p b).windowAt (some now) =
      ((s.afterHeader c.id b m p).setTi (s.ti.pastFrame.counts b m p)).setCt
        { s.ct with window := some now, heard := IdSet.add s.ct.heard b.sender, summarySeen := true } := by
    rw [State.headed, hcounted, State.afterHeader_setTi_setCt]
    rfl
  exact hresult ▸ hclosed

/-- R11, R17, R18: the frame is FOREIGN, its summary ignored. -/
theorem ignored (hs : s.sc.state = .member) (hl : m.lists b.sender = false)
    (hcase : x.lists c.id = true ∧ (s.iu.certainty = some .synced ∨ x.digest ≠ c.digest ∨ x.lists b.sender = false) ∨
      x.lists c.id = false ∧ foreignLarger m.ids x.ids = false) :
    exec (.frameEnd now line) s =
      exec .joinWindowTimerExpiry (((s.setTi { s.ti.pastFrame with foreign := saturate255 s.ti.foreign }).setCp
        { s.cp with flags := s.cp.flags ||| 0x0100 }).setCt { s.ct with window := some now }) := by
  have hon : s.receiverOn = true := State.receiverOn_of_member hs
  have hstep : v.summaryStep c now true b = (v, .ignored) := by
    rw [State.summaryStep_some h.summary, State.takeSummary_member now true (by rw [h.sc_eq, hs]) h.image_eq,
      State.memberSummary_ignored now true hl (by rw [h.iu_eq]; exact hcase)]
  rw [h.exec_eq hon, State.classify_sound now _ _ h.heardAs h.other h.sound,
    State.soundBeat_foreign hstep h.image_eq (Image.position_of_not_lists hl)]
  refine (Handled.concluded_ready_nil ((h.ready hon).congr rfl rfl rfl rfl rfl) rfl).trans ?_
  rw [h.past, ← (TrunkInterface.pastFrame_kept s.ti).2.1]
  rfl

/-- R10, R11: the MEMBER adopts. -/
theorem adopts (hs : s.sc.state = .member) (hq : x.position b.sender = some q)
    (hcase : m.lists b.sender = true ∧ (s.iu.certainty ≠ some .synced ∨ s.iu.copy ≠ some x) ∨
      m.lists b.sender = false ∧ s.iu.certainty = some .doubtful) (hown : x.lists c.id = true) (hdigest : x.digest = c.digest) :
    ∃ u, s.closesWindowWith now line b.sender (b.records.filter (accepts c b.sender)) u ∧ u.ct.keptInWindow s.ct c x now b.sender s.ct.suppressed ∧
      u.staysInWindow s x b q ∧ u.sc = s.sc ∧
      u.iu = s.imageAfter .member { image := some x, copy := some x, certainty := some .synced, marks := .empty } c.id b x q ∧
      u.reportsAdoption s c.id x := by
  have hstep : v.takeSummary c now true b.sender x = (v.adopt c now true b.sender x, .taken) := by
    rw [State.takeSummary_member now true (by rw [h.sc_eq, hs]) h.image_eq]
    rcases hcase with ⟨hl, hnew⟩ | ⟨hl, hdoubtful⟩
    · exact State.memberSummary_adopted now true hl hdigest (by rw [h.iu_eq]; exact hnew) hown
    · exact State.memberSummary_foreign_adopted now true hl hown (by rw [h.iu_eq]; exact hdoubtful) hdigest (Image.lists_of_position hq)
  obtain ⟨hiu, htimed, hreports⟩ := State.adopt_spec (s := v) (c := c) now true hq
  have hwindow := htimed.window (by rw [h.ct_eq]; exact h.window)
  have hready := h.readyOf (u := v.adopt c now true b.sender x) (by simp) hwindow (by rw [hiu]; rfl)
    (State.receiverOn_of_member (by simp [h.sc_eq, hs])) (by simp) (by simp [h.sc_eq])
  have hclosed := h.closes (State.receiverOn_of_member hs) hstep (.inr rfl) (by rw [hiu]) hq hready
  have htaken := State.headed_takenClosing (now := now) h.other (by rw [hiu]) (by simp [h.receiving_none]) htimed hwindow
  have hreports : (v.adopt c now true b.sender x).reportsAdoption s c.id x := by
    rw [h.past] at hreports ⊢
    exact hreports
  have hsuppressed : v.ct.suppressed = s.ct.suppressed := by rw [h.ct_eq]
  refine ⟨_, hclosed, hsuppressed ▸ h.kept htaken trivial, h.stays htaken (by simp) (by simp) (by simp) (by simp) (by simp),
    htaken.sc.trans (by simp [h.sc_eq]), ?_, hreports.keeps htaken.reports htaken.blocks.2.2.2.2.2⟩
  rw [htaken.iu]
  exact State.afterHeader_iu_congr hiu (by simp [h.sc_eq, hs]) _ _ _ _

/-- R83: the MEMBER is evicted. -/
theorem evicts (hs : s.sc.state = .member) (hq : x.position b.sender = some q) (hl : m.lists b.sender = true)
    (hnew : s.iu.certainty ≠ some .synced ∨ s.iu.copy ≠ some x) (hown : x.lists c.id = false) (hdigest : x.digest = c.digest) :
    ∃ u, s.closesWindowWith now line b.sender (b.records.filter (accepts c b.sender)) u ∧ u.ct.keptInWindow s.ct c x now b.sender false ∧
      u.departedFrom s ∧ u.ti = s.ti.pastFrame.counts b x q ∧
      u.iu = s.imageAfter .listen { image := some x, copy := none, certainty := none, marks := .empty } c.id b x q ∧
      u.sc = { s.sc with
        state := .listen, departing := false, removal := some .evicted,
        holdoff := some (now + 16 * (c.period * unitsPerMicrosecond)),
        founding := some (now + (4 + c.id.val) * (c.period * unitsPerMicrosecond)) } ∧
      u.flag .removed = true ∧ u.reportsDivergence s c.id x := by
  have hstep : v.takeSummary c now true b.sender x = (v.evictedByAdoption c now true b.sender x, .taken) := by
    rw [State.takeSummary_member now true (by rw [h.sc_eq, hs]) h.image_eq]
    exact State.memberSummary_evicted now true hl hdigest (by rw [h.iu_eq]; exact hnew) hown
  obtain ⟨hiu, htimed, hdeparted, hti, hsc, hflag, hreports⟩ := State.evictedByAdoption_spec (s := v) (c := c) now true hq
  have hti := hti.trans (TrunkInterface.dropArmed_of_not_armed h.not_armed)
  have hwindow := htimed.window (by rw [h.ct_eq]; exact h.window)
  have hready := h.readyOf (by simp) hwindow (by rw [hiu]; rfl) (State.receiverOn_eq_true (.inl (by rw [hsc]))) hti (by rw [hsc, h.sc_eq])
  have hclosed := h.closes (State.receiverOn_of_member hs) hstep (.inr rfl) (by rw [hiu]) hq hready
  have htaken := State.headed_takenClosing (now := now) h.other (by rw [hiu]) (by rw [hti, h.receiving_none]) htimed hwindow
  obtain ⟨hcb, hrt, hsq, -, hdu, hhalt⟩ := htaken.blocks
  have hreports : (v.evictedByAdoption c now true b.sender x).reportsDivergence s c.id x := by
    rw [h.past] at hreports ⊢
    exact hreports
  refine ⟨_, hclosed, h.kept htaken trivial, (hdeparted.congr ?_ ?_ ?_).keeps hcb hrt hsq hhalt hdu, by rw [htaken.ti, hti, h.ti_eq], ?_,
    htaken.sc.trans (by rw [hsc, h.sc_eq]), htaken.reports.flag _ hflag, hreports.keeps htaken.reports⟩
  iterate 3 rw [h.past]; rfl
  rw [htaken.iu]
  exact State.afterHeader_iu_congr hiu (by simp [hsc]) _ _ _ _

/-- R18: the MEMBER yields. -/
theorem yields (hs : s.sc.state = .member) (hq : x.position b.sender = some q) (hl : m.lists b.sender = false) (hown : x.lists c.id = false)
    (hlarger : foreignLarger m.ids x.ids = true) :
    ∃ u, s.closesWindowWith now line b.sender (b.records.filter (accepts c b.sender)) u ∧ u.ct.freshInWindow c x now b.sender q false ∧
      u.departedFrom s ∧ u.ti = s.ti.pastFrame.counts b x q ∧
      u.iu = s.imageAfter .listen { image := some x, copy := none, certainty := none, marks := .empty } c.id b x q ∧
      u.sc = { s.sc with
        state := .listen, departing := false, removal := some .yielded,
        founding := some (now + (4 + c.id.val) * (c.period * unitsPerMicrosecond)) } ∧
      u.flag .removed = true ∧ u.flag .yielded = true := by
  have hstep : v.takeSummary c now true b.sender x = (v.yieldTo c now true b.sender x, .taken) := by
    rw [State.takeSummary_member now true (by rw [h.sc_eq, hs]) h.image_eq]
    exact State.memberSummary_yields now true hl hown hlarger
  obtain ⟨hiu, htimed, hdeparted, hti, hsc, hremoved, hyielded⟩ := State.yieldTo_spec (s := v) (c := c) now true hq
  have hti := hti.trans (TrunkInterface.dropArmed_of_not_armed h.not_armed)
  have hwindow := htimed.window (by rw [h.ct_eq]; exact h.window)
  have hready := h.readyOf (by simp) hwindow (by rw [hiu]; rfl) (State.receiverOn_eq_true (.inl (by rw [hsc]))) hti (by rw [hsc, h.sc_eq])
  have hclosed := h.closes (State.receiverOn_of_member hs) hstep (.inr rfl) (by rw [hiu]) hq hready
  have htaken := State.headed_takenClosing (now := now) h.other (by rw [hiu]) (by rw [hti, h.receiving_none]) htimed hwindow
  obtain ⟨hcb, hrt, hsq, -, hdu, hhalt⟩ := htaken.blocks
  refine ⟨_, hclosed, fresh htaken id, (hdeparted.congr ?_ ?_ ?_).keeps hcb hrt hsq hhalt hdu, by rw [htaken.ti, hti, h.ti_eq], ?_,
    htaken.sc.trans (by rw [hsc, h.sc_eq]), htaken.reports.flag _ hremoved, htaken.reports.flag _ hyielded⟩
  iterate 3 rw [h.past]; rfl
  rw [htaken.iu]
  exact State.afterHeader_iu_congr hiu (by simp [hsc]) _ _ _ _

/-- A station that leaves the summary step in LISTEN, or was there, tracks the image (R12). -/
theorem tracks_of_step {u : State} (hq : x.position b.sender = some q) (hon : s.receiverOn = true)
    (hstep : v.takeSummary c now true b.sender x = (u, .taken)) (hcfg : u.cfg = v.cfg)
    (hiu : u.iu = { image := some x, copy := none, certainty := none, marks := .empty })
    (htimed : u.ct.TimedBy v.ct c x now true b.sender q false (v.listsSender b.sender = true ∧ v.ct.state ≠ .untimed))
    (hlisten : u.sc.state = .listen) (hleave : u.sc.deferredLeave = s.sc.deferredLeave) (hti : u.ti = v.ti) (hcb : u.cb = v.cb)
    (hrt : u.rt = v.rt) (hsq : u.sq = v.sq) (hdu : u.du = v.du) (hhalt : u.halt = v.halt) (hcp : u.cp = v.cp) :
    ∃ w, s.closesWindowWith now line b.sender (b.records.filter (accepts c b.sender)) w ∧
      w.ct.timedInWindow s.ct c m x now b.sender q false ∧ w.staysInWindow s x b q ∧ w.sc = u.sc ∧
      w.iu = s.imageAfter .listen { image := some x, copy := none, certainty := none, marks := .empty } c.id b x q ∧
      w.halt = s.halt ∧ w.cp = s.cp := by
  have hwindow := htimed.window (by rw [h.ct_eq]; exact h.window)
  have hready := h.readyOf hcfg hwindow (by rw [hiu]; rfl) (State.receiverOn_eq_true (.inl hlisten)) hti hleave
  have hclosed := h.closes hon hstep (.inr rfl) (by rw [hiu]) hq hready
  have htaken := State.headed_takenClosing (now := now) h.other (by rw [hiu]) (by rw [hti, h.receiving_none]) htimed hwindow
  refine ⟨_, hclosed, h.timed htaken, h.stays htaken hcb hrt hsq hdu hti, htaken.sc, ?_, ?_, ?_⟩
  · rw [htaken.iu]
    exact State.afterHeader_iu_congr hiu (by simp [hlisten]) _ _ _ _
  · rw [htaken.blocks.2.2.2.2.2, hhalt, h.past]; rfl
  · rw [htaken.silent (by simp [hlisten]), hcp, h.past]; rfl

/-- R12: a LISTEN station tracks it. -/
theorem tracks (hs : s.sc.state = .listen) (hq : x.position b.sender = some q) :
    ∃ u, s.closesWindowWith now line b.sender (b.records.filter (accepts c b.sender)) u ∧
      u.ct.timedInWindow s.ct c m x now b.sender q false ∧ u.staysInWindow s x b q ∧ u.sc = s.sc ∧
      u.iu = s.imageAfter .listen { image := some x, copy := none, certainty := none, marks := .empty } c.id b x q ∧
      u.halt = s.halt ∧ u.cp = s.cp := by
  have hvs : v.sc.state = .listen := by rw [h.sc_eq, hs]
  obtain ⟨hiu, htimed⟩ := State.trackSummary_spec (s := v) (c := c) now true (v.listsSender b.sender) hq
  obtain ⟨u, hclosed, htimed', hstays, hsc, hiu', hhalt, hcp⟩ := h.tracks_of_step hq (State.receiverOn_eq_true (.inl hs))
    (State.takeSummary_listen hvs now true b.sender) (by simp) hiu htimed (by simp [hvs]) (by simp [h.sc_eq]) (by simp) (by simp) (by simp)
    (by simp) (by simp) (by simp) (by simp)
  exact ⟨u, hclosed, htimed', hstays, hsc.trans (by simp [h.sc_eq]), hiu', hhalt, hcp⟩

/-- R75: a JOINING station is confirmed. -/
theorem joins (hs : s.sc.state = .joining) (hq : x.position b.sender = some q) (hown : x.lists c.id = true) (hdigest : x.digest = c.digest) :
    ∃ u, s.closesWindowWith now line b.sender (b.records.filter (accepts c b.sender)) u ∧
      u.ct.timedInWindow s.ct c m x now b.sender q s.sc.departing ∧ u.staysInWindow s x b q ∧
      u.sc = { s.sc with state := .member, attempts := 0 } ∧
      u.iu = s.imageAfter .member { image := some x, copy := some x, certainty := some .synced, marks := .empty } c.id b x q ∧
      u.flag .joined = true ∧ u.rm = 0 ∧ u.halt = { outcome := if x.run = .halted then .adopted else .none, unacked := 0 } := by
  have hstep := State.takeSummary_confirms (s := v) (sender := b.sender) now true (by rw [h.sc_eq, hs]) hown hdigest
  obtain ⟨hiu, htimed, hsc, hjoined, hrm, hhalt⟩ := State.confirmJoin_spec (s := v) (c := c) now true (v.listsSender b.sender) hq
  have hwindow := htimed.window (by rw [h.ct_eq]; exact h.window)
  have hready := h.readyOf (by simp) hwindow (by rw [hiu]; rfl) (State.receiverOn_of_member (by rw [hsc])) (by simp) (by rw [hsc, h.sc_eq])
  have hclosed := h.closes (State.receiverOn_eq_true (.inr hs)) hstep (.inr rfl) (by rw [hiu]) hq hready
  have htaken := State.headed_takenClosing (now := now) h.other (by rw [hiu]) (by simp [h.receiving_none]) htimed hwindow
  have hdeparting : v.sc.departing = s.sc.departing := by rw [h.sc_eq]
  obtain ⟨-, -, -, hrm', -, hhalt'⟩ := htaken.blocks
  refine ⟨_, hclosed, hdeparting ▸ h.timed htaken, h.stays htaken (by simp) (by simp) (by simp) (by simp) (by simp),
    htaken.sc.trans (by rw [hsc, h.sc_eq]), ?_, htaken.reports.flag _ hjoined, hrm'.trans hrm, hhalt'.trans hhalt⟩
  rw [htaken.iu]
  exact State.afterHeader_iu_congr hiu (by simp [hsc]) _ _ _ _

/-- R75, R76: a JOINING station fails an attempt, and listens on. -/
theorem retries (hs : s.sc.state = .joining) (hq : x.position b.sender = some q) (hfailed : x.lists c.id = false ∨ x.digest ≠ c.digest)
    (hd : s.sc.departing = false) (hmore : s.sc.attempts < 7) :
    ∃ u, s.closesWindowWith now line b.sender (b.records.filter (accepts c b.sender)) u ∧
      u.ct.timedInWindow s.ct c m x now b.sender q false ∧ u.staysInWindow s x b q ∧
      u.sc = { s.sc with
        state := .listen, attempts := s.sc.attempts + 1, founding := some (now + (4 + c.id.val) * (c.period * unitsPerMicrosecond)) } ∧
      u.iu = s.imageAfter .listen { image := some x, copy := none, certainty := none, marks := .empty } c.id b x q ∧
      u.halt = s.halt ∧ u.cp = s.cp := by
  have hstep := State.takeSummary_retries (s := v) (sender := b.sender) now true (by rw [h.sc_eq, hs]) hfailed (by rw [h.sc_eq, hd])
    (by rw [h.sc_eq]; exact hmore)
  obtain ⟨hiu, htimed⟩ := State.trackSummary_spec (s := v) (c := c) now true (v.listsSender b.sender) hq
  obtain ⟨u, hclosed, htimed', hstays, hsc, hrest⟩ := h.tracks_of_step hq (State.receiverOn_eq_true (.inr hs)) hstep (by simp) hiu htimed rfl
    (by rw [h.sc_eq]; rfl) (by simp) (by simp) (by simp) (by simp) (by simp) (by simp) (by simp)
  exact ⟨u, hclosed, htimed', hstays, hsc.trans (by rw [h.sc_eq]; rfl), hrest⟩

/-- R76: the last attempt fails. -/
theorem exhausts (hs : s.sc.state = .joining) (hfailed : x.lists c.id = false ∨ x.digest ≠ c.digest) (hd : s.sc.departing = false)
    (hlast : 7 ≤ s.sc.attempts) :
    ∃ t, exec (.frameEnd now line) s = .next t ∧ t.sc.state = .fault ∧ t.sc.faultReason = some .joinFailed ∧
      t.sc.attempts = s.sc.attempts + 1 ∧ t.flag .fault = true ∧ t.iu = .empty ∧ t.ct = .stopped ∧ t.ti.tx = .idle ∧
      t.ti.receiving = none ∧ t.ti.foreign = s.ti.foreign ∧ t.ti.inconsistent = s.ti.inconsistent ∧ t.du = s.du := by
  obtain ⟨-, hforeign, hinconsistent⟩ := s.ti.pastFrame_kept
  obtain ⟨u, hstep, hstate, hreason, hattempts, hfounding, hholdoff, hleave, hflag, hiu, hct, htx, hr, hforeign', hinconsistent', hdu, -⟩ :=
    State.takeSummary_exhausted (s := v) (sender := b.sender) now true (by rw [h.sc_eq, hs]) hfailed (by rw [h.sc_eq, hd])
      (by rw [h.sc_eq]; exact hlast)
  refine ⟨u, ?_, hstate, hreason, by rw [hattempts, h.sc_eq], hflag, hiu, hct, htx, hr, by rw [hforeign', h.ti_eq, hforeign],
    by rw [hinconsistent', h.ti_eq, hinconsistent], by rw [hdu, h.past]; rfl⟩
  rw [h.exec_eq (State.receiverOn_eq_true (.inr hs)), State.concluded_unplaced h.heardAs h.sound h.summary h.other hstep hiu hct htx hleave]

/-- R80: a JOINING station that departs goes to IDLE. -/
theorem departs (hs : s.sc.state = .joining) (hfailed : x.lists c.id = false ∨ x.digest ≠ c.digest) (hd : s.sc.departing = true) :
    ∃ t, exec (.frameEnd now line) s = .next t ∧
      t.sc = { s.sc with state := .idle, departing := false, founding := none, deferredLeave := false } ∧ t.iu = .empty ∧
      t.ct = .stopped ∧ t.ti.tx = .idle ∧ t.ti.receiving = none ∧ t.ti.foreign = s.ti.foreign ∧ t.ti.inconsistent = s.ti.inconsistent ∧
      t.du = s.du := by
  obtain ⟨-, hforeign, hinconsistent⟩ := s.ti.pastFrame_kept
  obtain ⟨u, hstep, hsc, hiu, hct, htx, hr, hforeign', hinconsistent', hdu, -⟩ :=
    State.takeSummary_departs (s := v) (sender := b.sender) now true (by rw [h.sc_eq, hs]) hfailed (by rw [h.sc_eq, hd])
  refine ⟨u, ?_, by rw [hsc, h.sc_eq], hiu, hct, htx, hr, by rw [hforeign', h.ti_eq, hforeign],
    by rw [hinconsistent', h.ti_eq, hinconsistent], by rw [hdu, h.past]; rfl⟩
  rw [h.exec_eq (State.receiverOn_eq_true (.inr hs)), State.concluded_unplaced h.heardAs h.sound h.summary h.other hstep hiu hct htx (by rw [hsc])]

end Outcomes

end State.SummaryInWindow

/-- Settles O47. -/
theorem summaryInTheWindowComesBeforeTheCycleEnd : Obligations.SummaryInTheWindowComesBeforeTheCycleEnd := by
  intro s c m x b now line hc hquiet hm hct hr hline hok hb hother
  have h : s.SummaryInWindow (s.setTi s.ti.pastFrame) c m x b now line := ⟨hquiet, rfl, hc, hm, hct, hr, hline, hok, hb, hother⟩
  refine ⟨fun hs => ⟨fun hl hdigest => ?_, fun p hp hdigest hsynced hcopy => h.confirmed hs hp hdigest hsynced hcopy,
      fun hl hcase => h.ignored hs hl hcase⟩,
    fun q hq => ⟨fun hs => ⟨fun hcase hown hdigest => h.adopts hs hq hcase hown hdigest,
        fun hl hnew hown hdigest => h.evicts hs hq hl hnew hown hdigest, fun hl hown hlarger => h.yields hs hq hl hown hlarger⟩,
      fun hs => h.tracks hs hq,
      fun hs => ⟨fun hown hdigest => h.joins hs hq hown hdigest, fun hfailed => ⟨fun hd hmore => h.retries hs hq hfailed hd hmore,
        fun hd hlast => h.exhausts hs hfailed hd hlast, fun hd => h.departs hs hfailed hd⟩⟩⟩⟩
  obtain ⟨p, hp⟩ := Image.position_of_lists hl
  exact h.digestDiffers hs hp hdigest

end Sys2Proof.Machine
end

section
/-! PROOF. What becomes of an ARMED BEAT at the end of a frame in the slots of a MEMBER (R49, R50, R150). -/

open Sys2Proof

namespace Sys2Proof.Machine

/-! ### The frame brought up to date, or given up -/

/-- A BEAT stands ARMED, with the items that its assembly took. -/
structure State.ArmedBeat (s : State) (taken : List Item) : Prop where
  tx : s.ti.tx = .armed
  frame : ∃ d e y p i k, s.ti.frame = some (.beat d e y p i taken k)

section Refresh

variable {s : State} {taken : List Item}

/-- R49: the BEAT follows image, certainty and pointer. -/
theorem State.refreshArmed_current {m : Image} (h : s.ArmedBeat taken) (hm : s.iu.image = some m) (hs : s.sc.state = .member)
    (hct : s.ct.state = .slots) (hp : s.ct.position = some s.ct.pointer) :
    s.refreshArmed = s.setTi { s.ti with frame := some (s.beatFrame m taken) } := by
  obtain ⟨htx, d, e, y, p, i, k, hframe⟩ := h
  unfold State.refreshArmed
  simp only [htx, hframe, hm, hs, hct, hp, and_self, if_true]

/-- R49: a BEAT whose slot is not the current one is abandoned. -/
theorem State.refreshArmed_stale (h : s.ArmedBeat taken) (hstale : s.ct.state ≠ .slots ∨ s.ct.position ≠ some s.ct.pointer) :
    s.refreshArmed = s.giveUpFrame := by
  obtain ⟨htx, d, e, y, p, i, k, hframe⟩ := h
  have hnot : ¬ (s.sc.state = .member ∧ s.ct.state = .slots ∧ s.ct.position = some s.ct.pointer) :=
    fun h => hstale.elim (fun h' => h' h.2.1) (fun h' => h' h.2.2)
  unfold State.refreshArmed
  cases hm : s.iu.image with
  | none => simp only [htx, hframe]
  | some m => simp only [htx, hframe, if_neg hnot]

theorem State.ArmedBeat.holdsBeat (h : s.ArmedBeat taken) : s.holdsBeat = true := by
  obtain ⟨-, d, e, y, p, i, k, hframe⟩ := h
  exact State.holdsBeat_of_beat ⟨d, e, y, p, i, taken, k, hframe⟩

theorem State.ArmedBeat.congr {u : State} (h : s.ArmedBeat taken) (htx : u.ti.tx = s.ti.tx) (hframe : u.ti.frame = s.ti.frame) :
    u.ArmedBeat taken := by
  obtain ⟨htx', d, e, y, p, i, k, hframe'⟩ := h
  exact ⟨htx.trans htx', d, e, y, p, i, k, hframe.trans hframe'⟩

end Refresh

/-- The ARMED BEAT as it stands brought up to date at `t`, its pointer that of `before` (R49). -/
def State.beatUpdated (before t : State) (taken : List Item) : Prop :=
  t.rt = before.rt ∧ t.ti.tx = .armed ∧ t.ti.startGuard = before.ti.startGuard ∧
    ∃ m', t.iu.image = some m' ∧
      t.ti.frame = some (.beat (t.iu.certainty != some .synced) m'.epoch m'.cycle (Fin.ofNat 16 before.ct.pointer)
        (if t.iu.certainty = some .synced then taken else []) taken
        (if t.iu.certainty = some .synced ∧ t.ct.summarySeen = false then t.iu.copy else none))

/-- The ARMED BEAT abandoned at `t`, its records back at the queue head of `before` (R49, R150). -/
def State.beatAbandoned (before t : State) : Prop :=
  t.ti.tx = .idle ∧ t.ti.frame = none ∧ t.ti.startGuard = none ∧
    t.rt = { before.rt with queue := before.rt.inFlight ++ before.rt.queue, inFlight := [] }

section Outcome

variable {before u : State} {taken : List Item} {m : Image} (c : StationConfig) (origin : StationId) (records : List Record)

theorem State.refreshArmed_beatUpdated (h : u.ArmedBeat taken) (hm : u.iu.image.isSome) (hs : u.sc.state = .member)
    (hct : u.ct.state = .slots) (hp : u.ct.position = some u.ct.pointer) (hpointer : u.ct.pointer = before.ct.pointer) (hrt : u.rt = before.rt)
    (hguard : u.ti.startGuard = before.ti.startGuard) :
    before.beatUpdated (u.refreshArmed.handedOn c origin records) taken := by
  obtain ⟨m, hm⟩ := Option.isSome_iff_exists.1 hm
  rw [State.refreshArmed_current h hm hs hct hp]
  refine ⟨by simpa using hrt, by simpa using h.tx, by simpa using hguard, m, by simpa using hm, ?_⟩
  simp [State.beatFrame, State.summaryToSend, hp, hpointer]

theorem State.refreshArmed_beatAbandoned (h : u.ArmedBeat taken) (hstale : u.ct.state ≠ .slots ∨ u.ct.position ≠ some u.ct.pointer)
    (hrt : u.rt = before.rt) : before.beatAbandoned (u.refreshArmed.handedOn c origin records) := by
  rw [State.refreshArmed_stale h hstale]
  refine ⟨?_, ?_, ?_, ?_⟩ <;> simp [State.giveUpFrame, TrunkInterface.noFrame, RecordTransport.returned, hrt]

end Outcome

/-! ### The frame end at a MEMBER with an ARMED BEAT -/

section FrameEnd

variable {s v : State} {c : StationConfig} {taken : List Item} {now : Instant} {origin : StationId} {records : List Record}

theorem exec_frameEnd_armed {line : List Bool} (hc : s.cfg = some c) (hs : s.sc.state = .member) (hr : s.ti.receiving = some false)
    (h : s.ArmedBeat taken) (now : Instant) :
    exec (.frameEnd now line) s = .next ((s.pastFrame.classify c now false false line).concluded c now false) := by
  rw [exec_frameEnd_heard hc hr (State.receiverOn_of_member hs) (.inr (.inl h.tx)), Bool.false_and, State.outOfFrame_of_beat h.holdsBeat]

/-- At a station that stays MEMBER the frame is brought up to date once the pointer has moved (R49). -/
theorem Handled.concluded_member {timing : Timing} (hs : v.sc.state = .member) (hleave : v.sc.deferredLeave = false) :
    Handled.concluded c now false { state := v, timing, origin, records } =
      (v.settle c now false timing).refreshArmed.handedOn c origin records := by
  have hsc : (v.settle c now false timing).sc = v.sc := by
    unfold State.settle
    (repeat' split)
    · rfl
    · rfl
    · exact State.movePointer_sc_of_not_listen (by simp [hs])
    · rfl
    · exact State.movePointer_sc_of_not_listen (by simp [hs])
  have hdeferred : (v.settle c now false timing).refreshArmed.sc.deferredLeave = false := by simpa [hsc] using hleave
  unfold Handled.concluded
  simp only [State.takeDeferredLeave_of_none hdeferred, State.finish_open]
  rfl

/-- What the class of the frame leaves for the ARMED BEAT. -/
structure State.ArmedAfter (s v : State) (taken : List Item) : Prop where
  sc : v.sc = s.sc
  rt : v.rt = s.rt
  cb : v.cb = s.cb
  sq : v.sq = s.sq
  rm : v.rm = s.rm
  du : v.du = s.du
  beat : v.ArmedBeat taken
  guard : v.ti.startGuard = s.ti.startGuard
  image : v.iu.image.isSome
  state : v.ct.state = s.ct.state
  pointer : v.ct.pointer = s.ct.pointer
  position : v.ct.position = s.ct.position

/-- The frame leaves the slot: the BEAT is brought up to date where the slot is the own one, and otherwise abandoned. -/
theorem Handled.concluded_armed_stays {timing : Timing} (h : s.ArmedAfter v taken) (hs : s.sc.state = .member)
    (hleave : s.sc.deferredLeave = false) (hct : s.ct.state = .slots)
    (hsettle : v.settle c now false timing = v.setCt { v.ct with silence := some (now + c.silence * unitsPerMicrosecond) }) :
    ∃ t, Handled.concluded c now false { state := v, timing, origin, records } = t ∧
      t.ct = { v.ct with silence := some (now + c.silence * unitsPerMicrosecond) } ∧ t.iu = v.iu ∧ t.cb = s.cb ∧ t.sc = s.sc ∧ t.sq = s.sq ∧
      t.rm = s.rm ∧ (records = [] → t.du = s.du) ∧ (s.ct.position = some s.ct.pointer → s.beatUpdated t taken) ∧
      (s.ct.position ≠ some s.ct.pointer → s.beatAbandoned t) := by
  have hbeat : (v.setCt { v.ct with silence := some (now + c.silence * unitsPerMicrosecond) }).ArmedBeat taken := h.beat.congr rfl rfl
  refine ⟨_, Handled.concluded_member (by rw [h.sc]; exact hs) (by rw [h.sc]; exact hleave), ?_⟩
  rw [hsettle]
  refine ⟨by simp, by simp, by simpa using h.cb, by simpa using h.sc, by simpa using h.sq, by simpa using h.rm, fun hrecords => ?_, fun hp => ?_,
    fun hp => ?_⟩
  · rw [hrecords, State.handedOn_nil]
    simpa using h.du
  · exact State.refreshArmed_beatUpdated c origin records hbeat h.image (by rw [State.setCt_sc, h.sc]; exact hs) (h.state.trans hct)
      (h.position.trans (by rw [hp]; exact congrArg some h.pointer.symm)) h.pointer h.rt h.guard
  · exact State.refreshArmed_beatAbandoned c origin records hbeat (.inr fun hown => hp (h.position.symm.trans (hown.trans (congrArg some h.pointer)))) h.rt

/-- The pointer moves at a MEMBER whose own slot does not begin (R24, R29). -/
theorem State.movePointer_not_own {p : Nat} (hs : v.sc.state = .member) (hnot : v.ct.position ≠ some p) (c : StationConfig) (now : Instant) :
    v.movePointer c now p = v.setCt (v.ct.movedTo c v.ti.receiving now p) := by
  unfold CycleTimer.movedTo
  split
  next hslot => exact State.movePointer_slot_other hslot (fun h => hnot h.2) c now
  next hlast => exact State.movePointer_window_not_listen (Nat.not_lt.1 hlast) (by simp [hs]) c now

/-- A listed sender's frame carries the pointer past the own slot: the BEAT is abandoned. -/
theorem Handled.concluded_armed_passed {p : Nat} (h : s.ArmedAfter v taken) (hs : s.sc.state = .member)
    (hleave : s.sc.deferredLeave = false) (hct : s.ct.state = .slots) (hp : s.ct.position = some s.ct.pointer) (hcomes : s.ct.pointer ≤ p) :
    ∃ t, Handled.concluded c now false { state := v, timing := .listed p, origin, records } = t ∧ t.ct.heard = v.ct.heard ∧ t.ct.pointer = p + 1 ∧
      s.beatAbandoned t ∧ t.cb = s.cb ∧ t.sc = s.sc ∧ t.sq = s.sq ∧ t.rm = s.rm := by
  have hvm : v.sc.state = .member := by rw [h.sc]; exact hs
  have hnot : v.ct.position ≠ some (p + 1) := by
    rw [h.position, hp]
    intro heq
    have := Option.some.inj heq
    omega
  have hmoved := State.movePointer_not_own hvm hnot c now
  obtain ⟨hpointer, hheard, -, -, -, hplan, -⟩ := v.ct.movedTo_kept c v.ti.receiving now (p + 1)
  have hposition : (v.ct.movedTo c v.ti.receiving now (p + 1)).position = v.ct.position := by simp only [CycleTimer.position, hplan]
  refine ⟨_, Handled.concluded_member hvm (by rw [h.sc]; exact hleave), ?_⟩
  rw [State.settle_listed (h.state.trans hct) (h.pointer ▸ hcomes), hmoved]
  refine ⟨by simp [hheard], by simp [hpointer], ?_, ?_, by simpa using h.sc, by simpa using h.sq, by simpa using h.rm⟩
  · exact State.refreshArmed_beatAbandoned c origin records (h.beat.congr rfl rfl)
      (.inr (by rw [State.setCt_ct, hposition, hpointer]; exact hnot)) h.rt
  · simpa using h.cb

theorem State.ArmedAfter.pastFrame (h : s.ArmedBeat taken) (hm : s.iu.image.isSome) : s.ArmedAfter s.pastFrame taken :=
  ⟨rfl, rfl, rfl, rfl, rfl, rfl, h.congr rfl rfl, rfl, hm, rfl, rfl, rfl⟩

theorem State.ArmedAfter.hear (h : s.ArmedAfter v taken) (i : StationId) : s.ArmedAfter (v.hear i) taken :=
  ⟨h.sc, h.rt, h.cb, h.sq, h.rm, h.du, h.beat.congr rfl rfl, h.guard, h.image, h.state, h.pointer, h.position⟩

theorem State.ArmedAfter.countInconsistent (h : s.ArmedAfter v taken) : s.ArmedAfter v.countInconsistent taken :=
  ⟨h.sc, h.rt, h.cb, h.sq, h.rm, h.du, h.beat.congr rfl rfl, h.guard, h.image, h.state, h.pointer, h.position⟩

theorem State.ArmedAfter.setIu (h : s.ArmedAfter v taken) {i : ImageUnit} (hi : i.image.isSome) : s.ArmedAfter (v.setIu i) taken :=
  ⟨h.sc, h.rt, h.cb, h.sq, h.rm, h.du, h.beat.congr rfl rfl, h.guard, hi, h.state, h.pointer, h.position⟩

theorem State.ArmedAfter.listedBeat (h : s.ArmedAfter v taken) (c : StationConfig) (x : Image) (p : Nat) (outcome : SummaryOutcome) (b : Beat) :
    s.ArmedAfter (v.listedBeat c x p outcome b) taken := by
  obtain ⟨n, hn⟩ := v.listedBeat_ti c x p outcome b
  obtain ⟨m, hm⟩ := Option.isSome_iff_exists.1 h.image
  obtain ⟨m', hm', -⟩ := State.listedBeat_roster hm c x p outcome b
  refine ⟨?_, ?_, ?_, ?_, ?_, ?_, h.beat.congr (by rw [hn]) (by rw [hn]), by rw [hn]; exact h.guard, by rw [hm']; rfl, ?_, ?_, ?_⟩ <;>
    simp [h.sc, h.rt, h.cb, h.sq, h.rm, h.du, h.state, h.pointer, h.position]

end FrameEnd

/-! ### Which frames leave the slot, and which pass it -/

section Frames

variable {s : State} {c : StationConfig} {m : Image} {line : List Bool} {taken : List Item} (now : Instant)

/-- A summary that neither is adopted nor leads out of the group leaves the ARMED BEAT where it is (R4, R10). -/
theorem State.summaryStep_kept {b : Beat} (h : s.ArmedBeat taken) (hs : s.sc.state = .member) (hm : s.iu.image = some m)
    (hl : m.lists b.sender = true)
    (hcase : b.summary = none ∨ ∃ x, b.summary = some x ∧ (x.digest ≠ c.digest ∨ s.iu.certainty = some .synced ∧ s.iu.copy = some x)) :
    ∃ u outcome, s.pastFrame.summaryStep c now false b = (u, outcome) ∧ outcome ≠ .taken ∧ u.iu.image = some m ∧ u.ct.heard = s.ct.heard ∧
      s.ArmedAfter u taken := by
  have hpast : s.ArmedAfter s.pastFrame taken := .pastFrame h (by simp [hm])
  rcases hcase with hb | ⟨x, hb, hcase⟩
  · exact ⟨_, _, State.summaryStep_none hb c now false, by simp, hm, rfl, hpast⟩
  · rw [State.summaryStep_some hb, State.takeSummary_member (s := s.pastFrame) now false hs hm]
    by_cases hd : x.digest = c.digest
    · obtain ⟨hsynced, hcopy⟩ := hcase.resolve_left (not_not.2 hd)
      exact ⟨_, _, State.memberSummary_confirmed (s := s.pastFrame) now false hl hd hsynced hcopy, by simp, hm, rfl,
        ⟨rfl, rfl, rfl, rfl, rfl, rfl, hpast.beat.congr rfl rfl, rfl, hpast.image, rfl, rfl, rfl⟩⟩
    · refine ⟨_, _, State.memberSummary_digestDiffers (s := s.pastFrame) now false hl hd, by simp, ?_, ?_, ?_⟩
      · rw [State.goDoubtful_of_member (s := s.pastFrame) hs]; exact hm
      · rw [State.goDoubtful_of_member (s := s.pastFrame) hs]; rfl
      · rw [State.goDoubtful_of_member (s := s.pastFrame) hs]
        exact hpast.setIu (i := { s.pastFrame.iu with certainty := some .doubtful }) hpast.image

/-- A listed sender's frame, of unsound structure or with no summary that is taken. -/
theorem State.classify_armed_listed {b : Beat} {inRange : Bool} {p : Nat} (h : s.ArmedBeat taken) (hs : s.sc.state = .member)
    (hm : s.iu.image = some m) (hline : receiveLine line = .whole (.beat b inRange) true) (hother : b.sender ≠ c.id)
    (hp : m.position b.sender = some p)
    (hcase : b.structureOk c inRange = false ∨ b.summary = none ∨
      ∃ x, b.summary = some x ∧ (x.digest ≠ c.digest ∨ s.iu.certainty = some .synced ∧ s.iu.copy = some x)) :
    ∃ v records, s.pastFrame.classify c now false false line = { state := v, timing := .listed p, origin := b.sender, records } ∧
      v.ct.heard = IdSet.add s.ct.heard b.sender ∧ s.ArmedAfter v taken := by
  have hpast : s.ArmedAfter s.pastFrame taken := .pastFrame h (by simp [hm])
  cases hok : b.structureOk c inRange with
  | false =>
    refine ⟨_, _, (State.classify_unsound now _ _ hline hother hok).trans (State.structureFailed_listed (by simpa [hm] using hp)), rfl, ?_⟩
    exact hpast.countInconsistent.hear b.sender
  | true =>
    obtain ⟨u, outcome, hstep, houtcome, hum, hheard, hu⟩ := State.summaryStep_kept (c := c) (b := b) now h hs hm (Image.lists_of_position hp)
      (hcase.resolve_left (by simp [hok]))
    refine ⟨_, _, (State.classify_sound now _ _ hline hother hok).trans ((State.soundBeat_listed hstep hum hp).trans (by rw [if_neg houtcome])), ?_,
      (hu.listedBeat c m p outcome b).hear b.sender⟩
    simp [State.hear, hheard]

/-- A foreign or inconsistent frame, or one that is not clean, restarts the slot (R52 to R56). -/
theorem State.classify_armed_restart (h : s.ArmedBeat taken) (hs : s.sc.state = .member) (hm : s.iu.image = some m)
    (hcase :
      (∃ b : Beat, receiveLine line = .whole (.beat b true) true ∧ b.structureOk c true = true ∧ b.sender ≠ c.id ∧ m.lists b.sender = false ∧
        ∀ x, b.summary = some x →
          x.lists c.id = true ∧ (s.iu.certainty = some .synced ∨ x.digest ≠ c.digest ∨ x.lists b.sender = false) ∨
            x.lists c.id = false ∧ foreignLarger m.ids x.ids = false) ∨
      ((∃ sender digest, receiveLine line = .whole (.join sender digest) true ∧ sender ≠ c.id) ∨
        ∃ b inRange, receiveLine line = .whole (.beat b inRange) true ∧ b.structureOk c inRange = false ∧ b.sender ≠ c.id ∧
          m.lists b.sender = false) ∨
      (receiveLine line = .cutShort ∨ ∃ f, receiveLine line = .whole f false)) :
    ∃ v origin, s.pastFrame.classify c now false false line = { state := v, timing := .restart, origin, records := [] } ∧ v.ct = s.ct ∧
      ((receiveLine line = .cutShort ∨ ∃ f, receiveLine line = .whole f false) → v.iu = { s.iu with certainty := some .doubtful }) ∧
      (¬ (receiveLine line = .cutShort ∨ ∃ f, receiveLine line = .whole f false) → v.iu = s.iu) ∧ s.ArmedAfter v taken := by
  have hpast : s.ArmedAfter s.pastFrame taken := .pastFrame h (by simp [hm])
  rcases hcase with ⟨b, hline, hok, hother, hl, hsummary⟩ | (⟨sender, digest, hline, hother⟩ | ⟨b, inRange, hline, hok, hother, hl⟩) | hbroken
  · have hstep : s.pastFrame.summaryStep c now false b = (s.pastFrame, .ignored) := by
      cases hb : b.summary with
      | none => exact State.summaryStep_none hb c now false
      | some x =>
        rw [State.summaryStep_some hb, State.takeSummary_member (s := s.pastFrame) now false hs hm]
        exact State.memberSummary_ignored (s := s.pastFrame) now false hl (hsummary x hb)
    refine ⟨_, _, (State.classify_sound now _ _ hline hother hok).trans (State.soundBeat_foreign hstep hm (Image.position_of_not_lists hl)),
      by simp, fun hbroken => by simp [hline] at hbroken, fun _ => by simp, ?_⟩
    exact ⟨rfl, rfl, rfl, rfl, rfl, rfl, h.congr rfl rfl, rfl, hpast.image, rfl, rfl, rfl⟩
  · exact ⟨_, _, State.classify_join now _ _ hline hother, rfl, fun hbroken => by simp [hline] at hbroken, fun _ => rfl, hpast.countInconsistent⟩
  · refine ⟨_, _, (State.classify_unsound now _ _ hline hother hok).trans
      (State.structureFailed_unlisted (by simpa [hm] using Image.position_of_not_lists hl)), rfl, fun hbroken => by simp [hline] at hbroken,
      fun _ => rfl, hpast.countInconsistent⟩
  · have hreceive : s.pastFrame.receiveError.iu = { s.iu with certainty := some .doubtful } := by
      rw [State.receiveError_eq]
      exact if_pos hs
    refine ⟨s.pastFrame.receiveError, c.id, State.classify_broken now _ _ hbroken, by rw [State.receiveError_eq]; rfl, fun _ => hreceive,
      fun hnot => absurd hbroken hnot, ?_⟩
    refine ⟨?_, ?_, ?_, ?_, ?_, ?_, h.congr ?_ ?_, ?_, by rw [hreceive]; exact hpast.image, ?_, ?_, ?_⟩ <;> rw [State.receiveError_eq] <;> rfl

end Frames

/-! ### An adoption at a MEMBER that holds an ARMED BEAT -/

theorem Image.position_lt {m : Image} {i : StationId} {p : Nat} (h : m.position i = some p) : p < m.roster.length := by
  have hl := Image.lists_of_position h
  unfold Image.position at h
  rw [if_pos hl] at h
  obtain rfl := Option.some.inj h
  have hlt : m.ids.countP (· < i) < m.ids.length :=
    List.countP_lt_length_iff.2 ⟨i, by simpa [Image.lists] using hl, by simp⟩
  simpa [Image.ids] using hlt

section Adoption

variable {s v : State} {c : StationConfig} {x : Image} {taken : List Item} {now : Instant} {p : Nat} {origin : StationId} {records : List Record}

/-- The own slot begins again: the BEAT is assembled anew (R48, log 23). -/
theorem State.movePointer_refreshArmed_assembles (hs : v.sc.state = .member) (hm : v.iu.image.isSome) (htx : v.ti.tx = .armed)
    (hlast : p < v.ct.members) (hp : v.ct.position = some p) (hrt : v.rt = s.rt) (hcb : v.cb = s.cb) :
    s.assembles c now ((v.movePointer c now p).refreshArmed.handedOn c origin records) := by
  obtain ⟨m, hm⟩ := Option.isSome_iff_exists.1 hm
  have hassembles := State.movePointer_assembles hlast hs hm hp (.inr htx) c now
  rw [hassembles.refreshArmed]
  refine (State.assembles_congr_target ?_ ?_ ?_ ?_ ?_ ?_ ?_ now).2 ((State.assembles_congr hrt hcb c now _).1 hassembles) <;> simp

/-- Another slot begins, or the join window: the BEAT is abandoned. -/
theorem State.movePointer_refreshArmed_abandons (hs : v.sc.state = .member) (h : v.ArmedBeat taken) (hp : v.ct.position ≠ some p)
    (hrt : v.rt = s.rt) (hcb : v.cb = s.cb) :
    s.beatAbandoned ((v.movePointer c now p).refreshArmed.handedOn c origin records) ∧
      ((v.movePointer c now p).refreshArmed.handedOn c origin records).cb = s.cb := by
  obtain ⟨hpointer, -, -, -, -, hplan, -⟩ := v.ct.movedTo_kept c v.ti.receiving now p
  have hposition : (v.ct.movedTo c v.ti.receiving now p).position = v.ct.position := by simp only [CycleTimer.position, hplan]
  rw [State.movePointer_not_own hs hp]
  exact ⟨State.refreshArmed_beatAbandoned c origin records (h.congr rfl rfl)
    (.inr (by rw [State.setCt_ct, hposition, hpointer]; exact hp)) hrt, by simpa using hcb⟩

/-- A MEMBER adopts (R10, R11, R49). -/
theorem exec_frameEnd_armed_adopted {b : Beat} {q : Nat} {line : List Bool} (hc : s.cfg = some c) (hs : s.sc.state = .member)
    (hleave : s.sc.deferredLeave = false) (hct : s.ct.state = .slots) (hr : s.ti.receiving = some false) (h : s.ArmedBeat taken)
    (hline : receiveLine line = .whole (.beat b true) true) (hok : b.structureOk c true = true) (hb : b.summary = some x)
    (hother : b.sender ≠ c.id) (hq : x.position b.sender = some q) (now : Instant)
    (hstep : s.pastFrame.takeSummary c now false b.sender x = (s.pastFrame.adopt c now false b.sender x, .taken)) :
    ∃ t : State, exec (.frameEnd now line) s = .next t ∧ t.sc = s.sc ∧ t.iu.copy = some x ∧
      t.iu = ((s.setIu { image := some x, copy := some x, certainty := some .synced, marks := .empty }).afterHeader c.id b x q).iu ∧
      t.ti.inconsistent = (s.ti.counts b x q).inconsistent ∧ t.ct.pointer = q + 1 ∧ t.ct.refixed s.ct c x now s.ct.suppressed ∧
      t.ct.heard = IdSet.add s.ct.heard b.sender ∧ (x.position c.id = some (q + 1) → s.assembles c now t) ∧
      (x.position c.id ≠ some (q + 1) → s.beatAbandoned t ∧ t.cb = s.cb) := by
  obtain ⟨u, hu⟩ : ∃ u, u = s.pastFrame.adopt c now false b.sender x := ⟨_, rfl⟩
  obtain ⟨hiu, htimed, -⟩ := State.adopt_spec (s := s.pastFrame) (c := c) now false hq
  rw [← hu] at hiu htimed hstep
  have hsc : u.sc = s.sc := by rw [hu]; simp
  have hti : u.ti = { s.ti with receiving := none } := by rw [hu]; simp
  have hrt : u.rt = s.rt := by rw [hu]; simp
  have hcb : u.cb = s.cb := by rw [hu]; simp
  obtain ⟨v, hv⟩ : ∃ v, v = u.headed c x q b := ⟨_, rfl⟩
  obtain ⟨hvsc, hvct, hvcb, -, -, hvrt, -, -, -, hviu, hvti⟩ := u.headed_spec c x q b
  rw [← hv] at hvsc hvct hvcb hvrt hviu hvti
  have hvsc : v.sc = s.sc := hvsc.trans hsc
  have hvti : v.ti = u.ti.counts b x q := hvti (by rw [hti])
  have hviu : v.iu = ((s.setIu { image := some x, copy := some x, certainty := some .synced, marks := .empty }).afterHeader c.id b x q).iu :=
    hviu.trans (State.afterHeader_iu_congr hiu (by rw [hsc]; rfl) _ _ _ _)
  obtain ⟨hcopy, himage, -⟩ :=
    (s.setIu { image := some x, copy := some x, certainty := some .synced, marks := .empty }).afterHeader_kept c.id b x q
  have hvm : v.sc.state = .member := by rw [hvsc]; exact hs
  have hvslots : v.ct.state = .slots := by rw [hvct]; exact (htimed.state.1 trivial).trans hct
  have hvp : v.ct.pointer = q + 1 := by rw [hvct]; exact htimed.pointer
  have hposition : v.ct.position = x.position c.id := by rw [hvct]; exact htimed.planned.position
  have hmembers : v.ct.members = x.roster.length := by rw [hvct]; exact htimed.planned.members
  have hvbeat : v.ArmedBeat taken := h.congr (by rw [hvti, hti]; rfl) (by rw [hvti, hti]; rfl)
  have hend : exec (.frameEnd now line) s = .next ((v.movePointer c now (q + 1)).refreshArmed.handedOn c b.sender b.records) := by
    rw [exec_frameEnd_armed hc hs hr h, State.classify_sound now _ _ hline hother hok,
      State.soundBeat_listed ((State.summaryStep_some hb c now false).trans hstep) (by rw [hiu]) hq, State.hear_listedBeat (.inr rfl), if_pos rfl,
      ← hv, Handled.concluded_member hvm (by rw [hvsc]; exact hleave), State.settle_set hvslots, hvp]
  have hmoved : (v.movePointer c now (q + 1)).sc = v.sc := State.movePointer_sc_of_not_listen (by simp [hvm])
  obtain ⟨hmiu, hmct, -⟩ := State.movePointer_kept (s := v) (c := c) (now := now) (p := q + 1) (by simp [hmoved, hvm])
  obtain ⟨hpointer, hheard, -⟩ := v.ct.movedTo_kept c v.ti.receiving now (q + 1)
  obtain ⟨hrefixed, hheard⟩ := (htimed.after (t' := v.ct.movedTo c v.ti.receiving now (q + 1))
    (by rw [hvct]; exact CycleTimer.movedTo_keepsTiming _ c _ now _) (by rw [hheard, hvct])).1 trivial
  refine ⟨_, hend, by simp [hmoved, hvsc], by simp [hmiu, hviu, hcopy], by simp [hmiu, hviu], ?_, by simp [hmct, hpointer], by simpa [hmct] using hrefixed,
    by simpa [hmct] using hheard, fun hown => ?_, fun hother => ?_⟩
  · simp [hvti, hti, TrunkInterface.counts]
  · exact State.movePointer_refreshArmed_assembles hvm (by rw [hviu, himage]; rfl) hvbeat.tx (by rw [hmembers]; exact Image.position_lt hown)
      (hposition.trans hown) (hvrt.trans hrt) (hvcb.trans hcb)
  · exact State.movePointer_refreshArmed_abandons hvm hvbeat (by rw [hposition]; exact hother) (hvrt.trans hrt) (hvcb.trans hcb)

end Adoption

end Sys2Proof.Machine
end

section
/-! PROOF. An ARMED BEAT at a MEMBER that its group leaves behind, and the statement of R49 at a frame end (R18, R83, R150). -/

open Sys2Proof

namespace Sys2Proof.Machine

/-! ### Outside the group the pointer brings no BEAT -/

section Listening

variable {s : State} {c : StationConfig} {now : Instant} {p : Nat}

theorem State.enterFault_frame (s : State) (reason : FaultReason) : (s.enterFault reason).ti.frame = none := rfl

/-- R67, R68: the judgment of a join arms no BEAT. -/
theorem State.judgeJoin_holdsBeat (h : s.ti.frame = none) : (s.judgeJoin c now).holdsBeat = false := by
  have hs : s.holdsBeat = false := by simp [State.holdsBeat, h]
  unfold State.judgeJoin
  (repeat' split)
  · exact hs
  · rfl
  · rw [State.holdsBeat, State.enterFault_frame]
    rfl
  · exact hs

theorem State.movePointer_holdsBeat (hs : s.sc.state ≠ .member) (h : s.ti.frame = none) : (s.movePointer c now p).holdsBeat = false := by
  have hnone : s.holdsBeat = false := by simp [State.holdsBeat, h]
  by_cases hp : p < s.ct.members
  · rw [State.movePointer_slot_other hp (fun hown => hs hown.1)]
    exact hnone
  · by_cases hlisten : s.sc.state = .listen
    · rw [State.movePointer_window_listen (Nat.not_lt.1 hp) hlisten]
      exact State.judgeJoin_holdsBeat h
    · rw [State.movePointer_window_not_listen (Nat.not_lt.1 hp) hlisten]
      exact hnone

theorem State.not_beat_of_holdsBeat (h : s.holdsBeat = false) :
    ∀ d e y p k l z, s.ti.frame ≠ some (.beat d e y p k l z) := by
  intro d e y p k l z hframe
  rw [State.holdsBeat_of_beat ⟨d, e, y, p, k, l, z, hframe⟩] at h
  cases h

end Listening

section Departure

variable {s u : State} {c : StationConfig} {x : Image} {taken : List Item} {b : Beat} {q : Nat} {line : List Bool}

/-- A MEMBER that the summary leads out of the group discards the records and the BEAT. -/
theorem exec_frameEnd_armed_departed {known : Prop} (hc : s.cfg = some c) (hs : s.sc.state = .member)
    (hleave : s.sc.deferredLeave = false) (hct : s.ct.state = .slots) (hr : s.ti.receiving = some false) (h : s.ArmedBeat taken)
    (hline : receiveLine line = .whole (.beat b true) true) (hok : b.structureOk c true = true) (hb : b.summary = some x)
    (hother : b.sender ≠ c.id) (hq : x.position b.sender = some q) (now : Instant)
    (hstep : s.pastFrame.takeSummary c now false b.sender x = (u, .taken)) (hx : u.iu.image = some x)
    (htimed : u.ct.TimedBy s.pastFrame.ct c x now false b.sender q false known) (hdeparted : u.departedFrom s.pastFrame)
    (hti : u.ti = s.pastFrame.ti.dropArmed) (hlisten : u.sc.state = .listen) (hdeferred : u.sc.deferredLeave = s.sc.deferredLeave) :
    ∃ t : State, exec (.frameEnd now line) s = .next t ∧ t.sc.state ≠ .member ∧ t.rt = { queue := [], inFlight := [], gapPending := true } ∧
      (∀ d e y p k l z, t.ti.frame ≠ some (.beat d e y p k l z)) ∧
      (q + 1 < x.roster.length → t.ti.tx = .idle ∧ t.ti.frame = none ∧ t.ti.startGuard = none) := by
  have hti : u.ti = s.pastFrame.ti.noFrame := hti.trans (if_pos h.tx)
  have hmember : u.sc.state ≠ .member := by simp [hlisten]
  have hslots : u.ct.state = .slots := by
    by_cases hk : known
    · exact (htimed.state.1 hk).trans hct
    · exact htimed.state.2 hk
  have hend : exec (.frameEnd now line) s = .next ((u.headed c x q b).passes c now (q + 1) b.sender b.records) := by
    rw [exec_frameEnd_armed hc hs hr h, State.concluded_taken hline hok hb hother hq hstep hx (by simp [hti, TrunkInterface.noFrame])
      (hdeferred.trans hleave) hslots htimed.pointer]
  have hreceiving : u.ti.receiving = none := by rw [hti]; rfl
  have htaken := State.passes_taken (c := c) (now := now) hother hx hreceiving (State.receiverOn_eq_true (.inl hlisten)) htimed
  obtain ⟨hvsc, -, -, -, -, -, -, -, -, -, hvti⟩ := u.headed_spec c x q b
  have hvti := hvti hreceiving
  refine ⟨_, hend, fun hmem => ?_, (htaken.kept hmember).1.trans hdeparted.2.1, State.not_beat_of_holdsBeat ?_, fun hslot => ?_⟩
  · exact hmember ((htaken.state (by simp [hmem])).symm.trans hmem)
  · have hmoved := State.movePointer_holdsBeat (s := u.headed c x q b) (c := c) (now := now) (p := q + 1) (by rw [hvsc]; exact hmember)
      (by rw [hvti, hti]; rfl)
    simpa [State.passes, State.holdsBeat] using hmoved
  · rw [(htaken.slot hslot).2.2.2 hmember, hti]
    exact ⟨rfl, rfl, rfl⟩

end Departure

/-- Settles O36. -/
theorem armedBeatIsBroughtUpToDate : Obligations.ArmedBeatIsBroughtUpToDate := by
  intro s c m now line doubt epoch cycle position items taken summary hc hs hleave hm hct hr htx hframe
  have hbeat : s.ArmedBeat taken := ⟨htx, doubt, epoch, cycle, position, items, summary, hframe⟩
  intro ignored foreign inconsistent broken updated abandoned
  refine ⟨fun hcase => ?_, fun b inRange p hline hother hp hown hcase => ?_, fun b x q hline hok hother hb hq =>
    ⟨fun hlists hdigest hcase => ?_, fun hlists hcase => ?_⟩⟩
  · have hcase : foreign ∨ inconsistent ∨ broken := hcase
    obtain ⟨v, origin, hclass, hvct, hbroken, hnot, hafter⟩ := State.classify_armed_restart (c := c) now hbeat hs hm (by
      rcases hcase with ⟨b, hline, hok, hother, hl, hsummary⟩ | hcase
      · refine .inl ⟨b, hline, hok, hother, hl, fun x hx => ?_⟩
        rcases hsummary x hx with (⟨hlists, hsynced⟩ | ⟨hlists, hdigest⟩ | ⟨hlists, hlarger⟩) | ⟨hlists, hsender⟩
        · exact .inl ⟨hlists, .inl hsynced⟩
        · exact .inl ⟨hlists, .inr (.inl hdigest)⟩
        · exact .inr ⟨hlists, hlarger⟩
        · exact .inl ⟨hlists, .inr (.inr hsender)⟩
      · exact .inr hcase)
    obtain ⟨t, ht, htct, htiu, htcb, htsc, htsq, htrm, htdu, hup, hstale⟩ := Handled.concluded_armed_stays (c := c) (now := now) (origin := origin)
      (records := []) hafter hs hleave hct (State.settle_restart (hafter.state.trans hct) c now)
    refine ⟨t, ?_, by rw [htct, hvct], fun h => htiu.trans (hbroken h), fun h => htiu.trans (hnot h), htcb, hup, hstale, htsc, htdu rfl, htsq, htrm⟩
    rw [exec_frameEnd_armed hc hs hr hbeat, hclass, ht]
  · obtain ⟨v, records, hclass, hheard, hafter⟩ := State.classify_armed_listed now hbeat hs hm hline hother hp hcase
    have hend := exec_frameEnd_armed (line := line) hc hs hr hbeat now
    rw [hclass] at hend
    rcases Nat.lt_or_ge p s.ct.pointer with hpassed | hcomes
    · have hsettle : v.settle c now false (.listed p) = v.setCt { v.ct with silence := some (now + c.silence * unitsPerMicrosecond) } := by
        have hnot : ¬ v.ct.pointer ≤ p := by rw [hafter.pointer]; omega
        simp only [State.settle, Bool.false_eq_true, hafter.state, hct, ne_eq, not_true, or_false, if_false, hnot]
        rfl
      obtain ⟨t, ht, htct, -, htcb, htsc, htsq, htrm, -, hup, -⟩ := Handled.concluded_armed_stays (c := c) (now := now) (origin := b.sender)
        (records := records) hafter hs hleave hct hsettle
      rw [ht] at hend
      exact ⟨t, hend, by rw [htct, ← hheard], fun h => absurd h (Nat.not_le.2 hpassed), fun _ => ⟨by rw [htct]; exact hafter.pointer, hup hown⟩,
        htcb, htsc, htsq, htrm⟩
    · obtain ⟨t, ht, hthheard, htpointer, habandoned, htcb, htsc, htsq, htrm⟩ := Handled.concluded_armed_passed (c := c) (now := now)
        (origin := b.sender) (records := records) hafter hs hleave hct hown hcomes
      rw [ht] at hend
      exact ⟨t, hend, hthheard.trans hheard, fun _ => ⟨htpointer, habandoned⟩, fun h => absurd h (Nat.not_lt.2 hcomes), htcb, htsc, htsq, htrm⟩
  · have hstep : s.pastFrame.takeSummary c now false b.sender x = (s.pastFrame.adopt c now false b.sender x, .taken) := by
      rw [State.takeSummary_member (s := s.pastFrame) now false hs hm]
      rcases hcase with ⟨hl, hnew⟩ | ⟨hl, hdoubtful⟩
      · exact State.memberSummary_adopted (s := s.pastFrame) now false hl hdigest hnew hlists
      · exact State.memberSummary_foreign_adopted (s := s.pastFrame) now false hl hlists hdoubtful hdigest (Image.lists_of_position hq)
    exact exec_frameEnd_armed_adopted hc hs hleave hct hr hbeat hline hok hb hother hq now hstep
  · rcases hcase with ⟨hl, hdigest, hnew⟩ | ⟨hl, hlarger⟩
    · obtain ⟨hiu, htimed, hdeparted, hti, hsc, -⟩ := State.evictedByAdoption_spec (s := s.pastFrame) (c := c) now false hq
      have hstep := State.memberSummary_evicted (s := s.pastFrame) now false hl hdigest hnew hlists
      rw [← State.takeSummary_member (s := s.pastFrame) now false hs hm] at hstep
      exact exec_frameEnd_armed_departed hc hs hleave hct hr hbeat hline hok hb hother hq now hstep (by rw [hiu]) htimed hdeparted hti
        (by rw [hsc]) (by rw [hsc]; rfl)
    · obtain ⟨hiu, htimed, hdeparted, hti, hsc, -⟩ := State.yieldTo_spec (s := s.pastFrame) (c := c) now false hq
      have hstep := State.memberSummary_yields (s := s.pastFrame) now false hl hlists hlarger
      rw [← State.takeSummary_member (s := s.pastFrame) now false hs hm] at hstep
      exact exec_frameEnd_armed_departed hc hs hleave hct hr hbeat hline hok hb hother hq now hstep (by rw [hiu]) htimed hdeparted hti
        (by rw [hsc]) (by rw [hsc]; rfl)

end Sys2Proof.Machine
end
